-- ==== Sys2Proof/Word.lean ====
section
/-! DEFINITION. The word types of the Rodaval 6416: what the manual carries and counts as bits. -/

namespace Sys2Proof

/-- A byte of a message, a cell or a payload. -/
abbrev Byte := BitVec 8

/-- A 16-bit number: a revision (R1), a generation (R132), a picture number. -/
abbrev Half := BitVec 16

/-- A 32-bit number: the frame number (R114), a cell sequence number (R158), a keystream word (R162). -/
abbrev Word := BitVec 32

/-- A service number, 0 to 15. -/
abbrev Svc := Fin 16

end Sys2Proof
end

