-- ==== Sys2Proof/Syntax.lean ====
section
/-! DEFINITION. The commands of the part: one constructor of `Instr` per row of spec/opcode_table.json, in its
order. Operands of port commands are the bytes their request carries (R193), so that a value outside a field's range
is a command as well and meets the refusal its rule names. -/

namespace Sys2Proof

/-- The two message ports (R172). -/
inductive PortId where
  | control
  | key
  deriving DecidableEq, Repr

/-- What the error correction of the pool finds at a take (R93, R94). -/
inductive EccResult where
  | clean
  | corrected
  | uncorrectable
  deriving DecidableEq, Repr

/-- Sixteen weights W_0 to W_15 in scan order (R41). -/
abbrev WeightTable := Vector Byte 16

/-- The 22-byte configuration block of SVC_DEFINE, SVC_MODIFY and SVC_QUERY (12_formats.md), field by field in
the order of the field numbers 0 to 18. -/
structure CfgBlock where
  base : Half
  k : Byte
  protection : Byte
  floor : Half
  weight : Byte
  qinit : Byte
  qmin : Byte
  qmax : Byte
  rndIntra : Byte
  rndPred : Byte
  periodMode : Byte
  p : Byte
  c : Half
  lead : Byte
  e : Byte
  nmin : Byte
  dmax : Byte
  z : Byte
  startPhase : Byte
  deriving DecidableEq, Repr

/-- The commands and events of the part (spec/opcode_table.json). `stages` is how many stages of work the Packer
does before the next event is taken (notes/assumptions/5.md). -/
inductive Instr where
  /-- POWER_ON: power comes up, with RST_N held asserted or not (R174). -/
  | powerOn (lineHeld : Bool)
  /-- RESET_LINE: assertion of RST_N (R20, R174). -/
  | resetLine
  /-- PORT_FRAME_END: the rise of chip-select on a port, with the whole bytes received in the frame (R166). -/
  | portFrameEnd (port : PortId) (received : List Byte)
  /-- SVC_DEFINE (R8, R9). -/
  | svcDefine (service : Byte) (cfg : CfgBlock)
  /-- SVC_MODIFY (R10): bit i of the mask selects field i of the block. -/
  | svcModify (service : Byte) (expected : Half) (mask : BitVec 24) (cfg : CfgBlock)
  /-- SVC_START (R14). -/
  | svcStart (service : Byte)
  /-- SVC_STOP without flush (R16). -/
  | svcStop (service : Byte)
  /-- SVC_STOP with flush (R17). -/
  | svcStopFlush (service : Byte)
  /-- SVC_RELEASE (R18). -/
  | svcRelease (service : Byte)
  /-- SVC_QUERY (R19). -/
  | svcQuery (service : Byte)
  /-- WEIGHTS_LOAD (R44). -/
  | weightsLoad (intra predicted : WeightTable)
  /-- WEIGHTS_QUERY (R46). -/
  | weightsQuery
  /-- MUX_SET (R97). -/
  | muxSet (f : Half) (l a : Byte)
  /-- MUX_QUERY (R99). -/
  | muxQuery
  /-- STATUS (R175). -/
  | status
  /-- RESET, the controller command (R177). -/
  | reset
  /-- FAULTS_READ (R181). -/
  | faultsRead (service : Byte)
  /-- FAULTS_ACK (R182). -/
  | faultsAck (service : Byte)
  /-- CHECK_READ (R186). -/
  | checkRead
  /-- CHECK_CLEAR (R187). -/
  | checkClear
  /-- CHECK_MODE (R188). -/
  | checkMode (mode : Byte)
  /-- KEY_LOAD (R151). -/
  | keyLoad (service phase : Byte) (expected : Half) (key : BitVec 64) (payload : List Byte)
  /-- KEY_CLEAR (R153). -/
  | keyClear (service phase : Byte) (expected : Half)
  /-- KEY_PURGE (R154). -/
  | keyPurge
  /-- KEY_STATUS (R155). -/
  | keyStatus (service selector : Byte)
  /-- REQUESTS_READ (R156). -/
  | requestsRead
  /-- LINK_MESSAGE_ARRIVAL: one burst of the contribution link (R22, R192). -/
  | linkMessageArrival (burst : List Byte)
  /-- PIC_HEAD: the Packer takes a PIC_HEAD record (R26 to R28). -/
  | picHead (stages : Nat)
  /-- BLOCKS: the Packer takes a BLOCKS record (R29 to R31). -/
  | blocks (stages : Nat)
  /-- PIC_TAIL: the Packer takes a PIC_TAIL record (R32 to R34). -/
  | picTail (stages : Nat)
  /-- WITHDRAW: one step of the withdrawal in flight on a service's ring (R86). -/
  | withdraw (service : Svc)
  /-- HELD_RECORD_RESUME: the Packer takes up the record it held through a withdrawal (R86). -/
  | heldRecordResume (stages : Nat)
  /-- FRAME_START: the pull of slot 0 (R114); `early` names the services whose silence expiry is taken before a period
  start at the same frame start, the others' being taken after it (R103), `order` in which order the services are
  treated. -/
  | frameStart (early order : List Svc)
  /-- SILENCE_EXPIRY (R37). -/
  | silenceExpiry (service : Svc)
  /-- PERIOD_EXPIRY (R136). -/
  | periodExpiry (service : Svc)
  /-- WINDOW_END (R142). -/
  | windowEnd (service : Svc)
  /-- ENTITLEMENT_COUNTDOWN_EXPIRY (R145). -/
  | entitlementCountdownExpiry (service : Svc)
  /-- DEFERRAL_LIMIT (R139). -/
  | deferralLimit (service : Svc)
  /-- SLOT_PULL: the pull of a lead-in or payload slot (R117); `ecc` is what the error correction finds if the slot
  takes a cell from the pool. -/
  | slotPull (ecc : EccResult)
  /-- RESET_LINE_RELEASE: the part leaves reset (R129). -/
  | resetLineRelease
  /-- PACKER_RECORD_WORK: the Packer carries on with the record it holds (R24). -/
  | packerRecordWork (stages : Nat)
  deriving DecidableEq, Repr

end Sys2Proof
end

