-- ==== Sys2Proof/Decode.lean ====
section
/-! DEFINITION. The command a table word spells. spec/opcode_table.json gives no row any bits ("fields": [] and no
"fixed" in every row), so no word spells a command. The messages that do carry commands are read in
Sys2Proof/Machine/Operands.lean. -/

namespace Sys2Proof

/-- The command that `nbits` bits `w` of the opcode table spell: none, because the table gives no row bits. -/
def decodeTableWord (_nbits _w : Nat) : Option Instr := none

end Sys2Proof
end

