-- ==== Sys2Proof/Config.lean ====
section
/-! DEFINITION. What the part fixes for every run: sizes, default tables, constants of the keystream. No value
of the manual is open in a way that needs a free constant: what the manual leaves to the outside is an operand of a
command (notes/assumptions 5, 7, 8). -/

namespace Sys2Proof.Config

/-- Credits that exist on the contribution link, and the size of the ingest queue (R21). -/
def creditTotal : Nat := 64

/-- Cells of the pool (R75). -/
def poolCells : Nat := 4096

/-- Payload bits of a cell (R77). -/
def payloadBits : Nat := 736

/-- Payload bytes of a cell. -/
def payloadBytes : Nat := 92

/-- Latched complexity after SVC_START (R14). -/
def startComplexity : Nat := 1024

/-- The default intra weights (R41). -/
def defaultIntra : Vector Byte 16 :=
  #v[16, 16, 16, 18, 18, 20, 22, 24, 24, 26, 28, 30, 32, 34, 36, 40]

/-- The default predicted weights (R41). -/
def defaultPredicted : Vector Byte 16 :=
  #v[16, 16, 16, 16, 16, 16, 16, 16, 16, 16, 16, 16, 16, 16, 16, 16]

/-- The multiplier of the keystream (R162). -/
def keystreamMultiplier : Word := 0x0DE5A0C5#32

/-- Keystream words of one cell (R162). -/
def keystreamWords : Nat := 23

/-- Default F, L and A (R96). -/
def defaultF : Nat := 512
def defaultL : Nat := 4
def defaultA : Nat := 2

end Sys2Proof.Config
end

