-- ==== Sys2Proof/Machine/State.lean ====
section
/-! DEFINITION. The state of the part: every piece of state the manual gives it, block by block, as plain data
(INVENTORY.md, "State"), and the state right after power-on. -/

namespace Sys2Proof.Machine

/-! ## Service Table (01_services.md) -/

/-- Whether the service's picture payload is scrambled. -/
inductive Protection where
  | clear
  | scrambled
  deriving DecidableEq, Repr

/-- How key periods follow one another. -/
inductive PeriodMode where
  | repeating
  | hold
  | clearWindow
  deriving DecidableEq, Repr

/-- A key phase, the index of a key slot (R131). -/
inductive Phase where
  | zero
  | one
  deriving DecidableEq, Repr

/-- The other phase. -/
def Phase.other : Phase → Phase
  | .zero => .one
  | .one => .zero

/-- The service states of an entry that is not UNUSED. UNUSED is the absence of an entry. -/
inductive Activity where
  | defined
  | running
  | stalled
  | draining
  deriving DecidableEq, Repr

/-- The configuration of a service. -/
structure SvcConfig where
  base : Nat
  k : Nat
  protection : Protection
  floor : Nat
  weight : Nat
  qinit : Nat
  qmin : Nat
  qmax : Nat
  rndIntra : Nat
  rndPred : Nat
  periodMode : PeriodMode
  p : Nat
  c : Nat
  lead : Nat
  e : Nat
  nmin : Nat
  dmax : Nat
  z : Nat
  startPhase : Phase
  deriving DecidableEq, Repr

/-! ## Queue Manager (05_cell_queues_and_picture_abandonment.md) -/

/-- The kinds of cell a ring holds (R77). -/
inductive RingCellKind where
  | picture
  | gap
  deriving DecidableEq, Repr

/-- A cell of the pool (R77). -/
structure PoolCell where
  kind : RingCellKind
  service : Svc
  start : Bool
  validBits : Nat
  payload : BitVec 736
  deriving DecidableEq, Repr

/-- What a pool cell holds after reset, until an append writes it: a cell of zeros. DESIGN CHOICE
(notes/assumptions/9.md): R75 states no contents, only that they are never sent. -/
def PoolCell.blank : PoolCell := { kind := .picture, service := 0, start := false, validBits := 0, payload := 0 }

/-- The cell pool: the cells by cell number, the numbers strictly rising. A cell that is not listed holds
`PoolCell.blank` (R75, notes/assumptions/9.md). -/
structure Pool where
  cells : List (Nat × PoolCell)
  deriving DecidableEq, Repr

/-- A pending GAP marker (R88). -/
structure Marker where
  firstNumber : Half
  cut : Bool
  count : Nat
  deriving DecidableEq, Repr

/-- The first-cell fields of a picture (R82): the state, with the first-cell index once it exists. -/
inductive FirstCell where
  | unwritten
  | queued (index : Nat)
  | sent (index : Nat)
  deriving DecidableEq, Repr

/-- A withdrawal in flight (R86), with what it needs of the abandoned picture. -/
structure Withdrawal where
  number : Half
  firstCell : FirstCell
  deriving DecidableEq, Repr

/-- The queue descriptor of a service (R75). -/
structure QueueDesc where
  read : Nat
  write : Nat
  marker : Option Marker
  withdrawal : Option Withdrawal
  deriving DecidableEq, Repr

/-! ## Ingest Unit and Packer (02_picture_ingest.md, 03_quantization_and_coding.md, 04_rate_control.md) -/

/-- The kind of a picture. -/
inductive PictureKind where
  | intra
  | predicted
  deriving DecidableEq, Repr

/-- The number of a weight bank (R41). -/
inductive Bank where
  | zero
  | one
  deriving DecidableEq, Repr

/-- The other bank. -/
def Bank.other : Bank → Bank
  | .zero => .one
  | .one => .zero

/-- A block of sixteen coefficients in scan order, each a 12-bit two's-complement value (R192). -/
abbrev Block := List (BitVec 12)

/-- One contribution message as it is held in the ingest queue or by the Packer (R22). -/
inductive Record where
  | picHead (service : Svc) (number : Half) (kind : PictureKind) (stripes blocksPerStripe : Nat) (complexity : Nat)
  | blocks (service : Svc) (data : List Block)
  | picTail (service : Svc) (number : Half)
  deriving DecidableEq, Repr

/-- The service a record belongs to. -/
def Record.service : Record → Svc
  | .picHead n _ _ _ _ _ => n
  | .blocks n _ => n
  | .picTail n _ => n

/-- The Packer's partial cell (R81). -/
structure PartialCell where
  start : Bool
  bits : List Bool
  deriving DecidableEq, Repr

/-- An open picture: its ingest context (R25), its coding state (R42, R47 to R49), the picture part of its rate
context (R59), its partial cell (R81) and first-cell fields (R82). -/
structure OpenPicture where
  number : Half
  kind : PictureKind
  stripes : Nat
  blocksPerStripe : Nat
  blocksCoded : Nat
  bank : Bank
  rndIntra : Nat
  rndPred : Nat
  saturated : Bool
  steps : List Nat
  qinit : Nat
  qmin : Nat
  qmax : Nat
  target : Nat
  qs : Nat
  qsSum : Nat
  bitsSpent : Nat
  emergency : Bool
  cell : PartialCell
  firstCell : FirstCell
  deriving DecidableEq, Repr

/-- The ingest state (R25), with the open picture in IN_PICTURE. -/
inductive IngestState where
  | idle
  | inPicture (pic : OpenPicture)
  | discarding
  deriving DecidableEq, Repr

/-- The ingest context of a service (R25). -/
structure IngestCtx where
  state : IngestState
  silence : Nat
  expired : Bool
  deriving DecidableEq, Repr

/-- How far the Packer's work on its record has come (R24). -/
inductive WorkPhase where
  /-- The record waits for the withdrawal on its service's ring to end (R86); whether the service was DRAINING when the
  record was taken (R39). -/
  | held (draining : Bool)
  /-- A PIC_HEAD that has been judged, or whose forced close has ended: it opens its picture next (R26, R28). -/
  | opening
  /-- A BLOCKS record in progress: the blocks still to come, and whether an excess block was found (R30). -/
  | coding (rest : List Block) (excess : Bool)
  /-- A close in progress (R32): whether a missing block has been coded empty. -/
  | closing (short : Bool)
  /-- What remains of the record is passed over; the work then ends (R31). -/
  | passing
  deriving DecidableEq, Repr

/-- The record the Packer holds. -/
structure PackerWork where
  record : Record
  phase : WorkPhase
  deriving DecidableEq, Repr

/-- The previous-picture statistics (R71). -/
structure Stats where
  bitsPrev : Nat
  qavgPrev : Nat
  deriving DecidableEq, Repr

/-- The two tables of a weight bank (R41). -/
structure WeightBank where
  intra : WeightTable
  predicted : WeightTable
  deriving DecidableEq, Repr

/-- The Quantizer tables (R41). -/
structure Quantizer where
  bank0 : WeightBank
  bank1 : WeightBank
  active : Bank
  users0 : Nat
  users1 : Nat
  deriving DecidableEq, Repr

/-! ## Allocator (06_multiplex_allocation.md) -/

/-- One copy of the multiplex configuration (R96). -/
structure Mux where
  f : Nat
  l : Nat
  a : Nat
  deriving DecidableEq, Repr

/-- The allocation context of a service (R101). -/
structure AllocCtx where
  complexity : Nat
  latchedFloor : Nat
  latchedWeight : Nat
  grant : Nat
  deficit : Nat
  fallback : Bool
  deriving DecidableEq, Repr

/-! ## Key Unit (08_key_periods_and_changeover.md) -/

/-- The protection state of a participant (R133). -/
inductive ProtState where
  | clear
  | window
  | scrambled
  | deferred
  | late
  | blackout
  deriving DecidableEq, Repr

/-- The contents of a key slot that is present (R131). -/
structure KeySlot where
  key : BitVec 64
  payload : List Byte
  sent : Nat
  deriving DecidableEq, Repr

/-- The period timer (R134). -/
structure PeriodTimer where
  prescale : Nat
  count : Nat
  deriving DecidableEq, Repr

/-- The key context of a service (R131). `prot` is absent in DEFINED. -/
structure KeyCtx where
  slot0 : Option KeySlot
  slot1 : Option KeySlot
  phase : Phase
  generation : Half
  prot : Option ProtState
  windowSpent : Bool
  timer : PeriodTimer
  requestMark : Bool
  deferral : Nat
  countdown : Nat
  stamp : Option Word
  deriving DecidableEq, Repr

/-- An entry of the key request set (R147). -/
structure KeyRequest where
  service : Svc
  phase : Phase
  urgent : Bool
  deriving DecidableEq, Repr

/-! ## Fault Unit (11_faults_and_checks.md) -/

/-- The ten fault codes. -/
inductive FaultCode where
  | inputLost
  | pictureFormat
  | pictureUnclosed
  | pictureShort
  | pictureExcess
  | strayInput
  | queueOverflow
  | levelSaturated
  | keyLate
  | blackout
  deriving DecidableEq, Repr

/-- An entry of a fault list (R179). -/
structure FaultEntry where
  code : FaultCode
  firstFrame : Word
  count : Nat
  deriving DecidableEq, Repr

/-- The fault list of a service (R179). -/
structure FaultList where
  entries : List FaultEntry
  more : Bool
  deriving DecidableEq, Repr

/-- The six classes of check. -/
inductive CheckClass where
  | portFormat
  | unrouted
  | poolCorrected
  | linkCrc
  | linkOverrun
  | poolUncorrected
  deriving DecidableEq, Repr

/-- The retained detail of the device check record (R184). -/
structure CheckDetail where
  cls : CheckClass
  service : Option Svc
  frame : Word
  cellIndex : Option Nat
  deriving DecidableEq, Repr

/-- The device check record with the reporting mode (R183, R185). `flags` holds class c in bit c − 1. -/
structure CheckRecord where
  flags : Byte
  detail : Option CheckDetail
  attention : Bool
  mode : Nat
  deriving DecidableEq, Repr

/-! ## Ports (10_management_ports.md) -/

/-- The framing state of a message port (R166). `dataOut` is the model's record of the bytes the port shifted out in
the last frame. -/
structure Port where
  held : Option (List Byte)
  take : Byte
  rx : List Byte
  dataOut : List Byte
  deriving DecidableEq, Repr

/-- The three start causes (R174). -/
inductive StartCause where
  | power
  | line
  | command
  deriving DecidableEq, Repr

/-! ## A service entry and the whole part -/

/-- An entry that is not UNUSED: configuration, service state and revision (Service Table), and the runtime state of
every block for the service. -/
structure Service where
  cfg : SvcConfig
  activity : Activity
  revision : Half
  queue : QueueDesc
  ingest : IngestCtx
  stats : Option Stats
  alloc : AllocCtx
  contPicture : BitVec 4
  contEntitle : BitVec 4
  keys : KeyCtx
  cellSeq : Word
  faults : FaultList
  deriving DecidableEq, Repr

/-- Work of the frame start in progress that is still to be taken (notes/assumptions/6.md): the expiries it found,
and a period start that silence expiries go before. -/
inductive FrameWork where
  | silence (service : Svc)
  | period (service : Svc)
  | window (service : Svc)
  | countdown (service : Svc)
  | deferral (service : Svc)
  | allocate
  deriving DecidableEq, Repr

/-- The state of the part. -/
structure State where
  startCause : StartCause
  rstAsserted : Bool
  services : Vector (Option Service) 16
  pool : Pool
  ingestQueue : List Record
  credits : Nat
  clCredit : Nat
  packer : Option PackerWork
  quant : Quantizer
  inForce : Mux
  frameStruct : Mux
  adoptionPending : Bool
  frameNumber : Word
  frameBegun : Bool
  slotIndex : Nat
  dueList : List Svc
  rrPointer : Svc
  outCell : List Byte
  requests : List KeyRequest
  keyAttn : Bool
  checks : CheckRecord
  ctlAttn : Bool
  control : Port
  key : Port
  frameDue : List FrameWork
  pending : List Instr
  deriving DecidableEq, Repr

/-- Why the model stops with a fault. The part itself has no stop: the one fault stands for a state the manual says
does not occur, so it is safe (a run of the part never gets there). -/
inductive Fault where
  /-- SLOT_PULL: the Scrambler is handed a cell to scramble while the current slot holds no key. R161: in SCRAMBLED,
  DEFERRED and LATE the current slot always holds one. Safe. -/
  | noCurrentKey
  deriving DecidableEq, Repr

/-- Why the model refuses a command. -/
inductive Refusal where
  /-- Raised by `exec` for a command without a meaning in the model. No command is in this case. Safe. -/
  | notModelled (mnemonic : String)
  deriving DecidableEq, Repr

/-! ## Reset -/

/-- The multiplex configuration of power-on (R111). -/
def Mux.default : Mux := { f := Config.defaultF, l := Config.defaultL, a := Config.defaultA }

/-- The weight banks of power-on (R41, R56). -/
def Quantizer.default : Quantizer :=
  { bank0 := { intra := Config.defaultIntra, predicted := Config.defaultPredicted }
    bank1 := { intra := Config.defaultIntra, predicted := Config.defaultPredicted }
    active := .zero
    users0 := 0
    users1 := 0 }

/-- A port after power-on (R173). -/
def Port.idle : Port := { held := none, take := 0, rx := [], dataOut := [] }

/-- The device check record after power-on (R189). -/
def CheckRecord.clean : CheckRecord := { flags := 0, detail := none, attention := false, mode := 3 }

/-- The machine right after power-on, its reset line not asserted (R20, R40, R56, R74, R95, R111, R129, R157, R165,
R173, R174, R189). -/
def State.reset : State :=
  { startCause := .power
    rstAsserted := false
    services := Vector.replicate 16 none
    pool := { cells := [] }
    ingestQueue := []
    credits := Config.creditTotal
    clCredit := 0
    packer := none
    quant := Quantizer.default
    inForce := Mux.default
    frameStruct := Mux.default
    adoptionPending := false
    frameNumber := 0
    frameBegun := false
    slotIndex := 0
    dueList := []
    rrPointer := 0
    outCell := []
    requests := []
    keyAttn := false
    checks := CheckRecord.clean
    ctlAttn := false
    control := Port.idle
    key := Port.idle
    frameDue := []
    pending := [] }

end Sys2Proof.Machine
end

