-- ==== Sys2Proof/Machine/Bits.lean ====
section
/-! DEFINITION. Bytes and bits as the part carries them: multi-byte fields most significant byte first, bit strings
most significant bit first (00_scope.md, Conventions), and the two CRCs (R190, R192). -/

namespace Sys2Proof.Machine

/-- The low byte of a number. -/
def byteOf (n : Nat) : Byte := BitVec.ofNat 8 n

/-- A 16-bit field. -/
def be16 (v : Half) : List Byte := [v.extractLsb' 8 8, v.extractLsb' 0 8]

/-- A 16-bit field holding a number. -/
def be16Of (n : Nat) : List Byte := be16 (BitVec.ofNat 16 n)

/-- A 32-bit field. -/
def be32 (v : Word) : List Byte := be16 (v.extractLsb' 16 16) ++ be16 (v.extractLsb' 0 16)

/-- A flag carried as one byte (12_formats.md, enumerations). -/
def flagByte (b : Bool) : Byte := if b then 1 else 0

/-- The low `width` bits of `v`, most significant first. -/
def bitsOf : Nat → Nat → List Bool
  | 0, _ => []
  | w + 1, v => v.testBit w :: bitsOf w v

/-- The number a bit string spells. -/
def natOfBits (bits : List Bool) : Nat := bits.foldl (fun a b => 2 * a + b.toNat) 0

/-- The number a byte string spells. -/
def natOfBytes (bytes : List Byte) : Nat := bytes.foldl (fun a b => 256 * a + b.toNat) 0

/-- The low `n` bytes of `v`, most significant first. -/
def bytesOfNat : Nat → Nat → List Byte
  | 0, _ => []
  | n + 1, v => byteOf (v / 256 ^ n) :: bytesOfNat n v

/-- A payload from its first bits, the rest zero (R77). -/
def payloadOfBits (bits : List Bool) : BitVec 736 :=
  BitVec.ofNat 736 (natOfBits ((bits ++ List.replicate Config.payloadBits false).take Config.payloadBits))

/-- A payload from its first bytes, the rest zero (R191). -/
def payloadOfBytes (bytes : List Byte) : BitVec 736 :=
  BitVec.ofNat 736 (natOfBytes ((bytes ++ List.replicate Config.payloadBytes 0).take Config.payloadBytes))

/-- The 92 bytes of a payload in the order they leave the part (R112). -/
def payloadBytes (payload : BitVec 736) : List Byte := bytesOfNat Config.payloadBytes payload.toNat

/-- One step of the cell header's CRC register (R190). -/
def crc8Step (r : Byte) : Byte := if r.msb then (r <<< 1) ^^^ 0x07#8 else r <<< 1

/-- The CRC-8 of a cell header (R190). -/
def crc8 (bytes : List Byte) : Byte := bytes.foldl (fun r b => crc8Step^[8] (r ^^^ b)) 0

/-- One step of the contribution message's CRC register (R192). -/
def crc16Step (r : Half) : Half := if r.msb then (r <<< 1) ^^^ 0x1021#16 else r <<< 1

/-- The CRC-16 of a contribution message (R192). -/
def crc16 (bytes : List Byte) : Half := bytes.foldl (fun r b => crc16Step^[8] (r ^^^ (b ++ 0#8))) 0xFFFF#16

end Sys2Proof.Machine
end

