-- ==== Sys2Proof/Machine/Operands.lean ====
section
/-! DEFINITION. What the part reads from outside: the port requests (R167, R168, R193), the configuration block with
its ranges, and the contribution messages (R192). -/

namespace Sys2Proof.Machine

/-- The entry a service byte names, if it is 0 to 15. -/
def svcIndex (b : Byte) : Option Svc := if h : b.toNat < 16 then some ⟨b.toNat, h⟩ else none

/-- All service numbers, ascending. -/
def allServices : List Svc := [0, 1, 2, 3, 4, 5, 6, 7, 8, 9, 10, 11, 12, 13, 14, 15]

/-! ## The configuration block -/

/-- The 22 bytes of a configuration block (12_formats.md). -/
def cfgBytes (b : CfgBlock) : List Byte :=
  be16 b.base ++ [b.k, b.protection] ++ be16 b.floor
    ++ [b.weight, b.qinit, b.qmin, b.qmax, b.rndIntra, b.rndPred, b.periodMode, b.p] ++ be16 b.c
    ++ [b.lead, b.e, b.nmin, b.dmax, b.z, b.startPhase]

/-- The configuration block that 22 bytes carry. -/
def readCfgBlock : List Byte → Option CfgBlock
  | [b1, b0, k, pr, f1, f0, w, qi, qn, qx, ri, rp, pm, p, c1, c0, ld, e, nm, dm, z, sp] =>
    some { base := b1 ++ b0, k := k, protection := pr, floor := f1 ++ f0, weight := w, qinit := qi, qmin := qn,
           qmax := qx, rndIntra := ri, rndPred := rp, periodMode := pm, p := p, c := c1 ++ c0, lead := ld, e := e,
           nmin := nm, dmax := dm, z := z, startPhase := sp }
  | _ => none

/-- Whether field `i` of the block lies in the range the configuration table gives it (01_services.md, "The entry";
R193 for protection, period mode and start phase). The floor's bound P and the alignment of the base depend on other
values and are tested apart. -/
def cfgFieldInRange (b : CfgBlock) (i : Nat) : Bool :=
  let within (lo hi v : Nat) : Bool := lo ≤ v && v ≤ hi
  match i with
  | 0 => within 0 4095 b.base.toNat
  | 1 => within 4 10 b.k.toNat
  | 2 => within 0 1 b.protection.toNat
  | 4 => within 1 15 b.weight.toNat
  | 5 => within 1 63 b.qinit.toNat
  | 6 => within 1 63 b.qmin.toNat
  | 7 => within 1 63 b.qmax.toNat
  | 8 => within 0 4 b.rndIntra.toNat
  | 9 => within 0 4 b.rndPred.toNat
  | 10 => within 0 2 b.periodMode.toNat
  | 11 => within 1 16 b.p.toNat
  | 12 => within 1 256 b.c.toNat
  | 13 => within 1 128 b.lead.toNat
  | 14 => within 1 64 b.e.toNat
  | 15 => within 1 8 b.nmin.toNat
  | 16 => within 1 255 b.dmax.toNat
  | 17 => within 1 255 b.z.toNat
  | 18 => within 0 1 b.startPhase.toNat
  | _ => true

/-- The field numbers of the configuration block (12_formats.md). -/
def cfgFields : List Nat := [0, 1, 2, 3, 4, 5, 6, 7, 8, 9, 10, 11, 12, 13, 14, 15, 16, 17, 18]

/-- The fields that SVC_MODIFY may not change while the service is a participant (01_services.md, "Live"). -/
def nonLiveFields : List Nat := [0, 1, 2, 10, 11, 12, 18]

/-- The protection a byte names. -/
def protectionOf (b : Byte) : Protection := if b = 0 then .clear else .scrambled

/-- The period mode a byte names. -/
def periodModeOf (b : Byte) : PeriodMode := if b = 0 then .repeating else if b = 1 then .hold else .clearWindow

/-- The phase a byte names. -/
def phaseOf (b : Byte) : Phase := if b = 0 then .zero else .one

/-- The configuration a block carries. -/
def SvcConfig.ofBlock (b : CfgBlock) : SvcConfig :=
  { base := b.base.toNat, k := b.k.toNat, protection := protectionOf b.protection, floor := b.floor.toNat,
    weight := b.weight.toNat, qinit := b.qinit.toNat, qmin := b.qmin.toNat, qmax := b.qmax.toNat,
    rndIntra := b.rndIntra.toNat, rndPred := b.rndPred.toNat, periodMode := periodModeOf b.periodMode,
    p := b.p.toNat, c := b.c.toNat, lead := b.lead.toNat, e := b.e.toNat, nmin := b.nmin.toNat,
    dmax := b.dmax.toNat, z := b.z.toNat, startPhase := phaseOf b.startPhase }

/-- Whether a selection mask selects field `i` (R193). -/
def selects (mask : BitVec 24) (i : Nat) : Bool := mask.getLsbD i

/-- The configuration with the selected fields of a block in place (R10, R11). -/
def SvcConfig.overlay (cfg : SvcConfig) (mask : BitVec 24) (b : CfgBlock) : SvcConfig :=
  let new := SvcConfig.ofBlock b
  { base := if selects mask 0 then new.base else cfg.base
    k := if selects mask 1 then new.k else cfg.k
    protection := if selects mask 2 then new.protection else cfg.protection
    floor := if selects mask 3 then new.floor else cfg.floor
    weight := if selects mask 4 then new.weight else cfg.weight
    qinit := if selects mask 5 then new.qinit else cfg.qinit
    qmin := if selects mask 6 then new.qmin else cfg.qmin
    qmax := if selects mask 7 then new.qmax else cfg.qmax
    rndIntra := if selects mask 8 then new.rndIntra else cfg.rndIntra
    rndPred := if selects mask 9 then new.rndPred else cfg.rndPred
    periodMode := if selects mask 10 then new.periodMode else cfg.periodMode
    p := if selects mask 11 then new.p else cfg.p
    c := if selects mask 12 then new.c else cfg.c
    lead := if selects mask 13 then new.lead else cfg.lead
    e := if selects mask 14 then new.e else cfg.e
    nmin := if selects mask 15 then new.nmin else cfg.nmin
    dmax := if selects mask 16 then new.dmax else cfg.dmax
    z := if selects mask 17 then new.z else cfg.z
    startPhase := if selects mask 18 then new.startPhase else cfg.startPhase }

/-- The byte of a protection, a period mode, a phase, a bank (12_formats.md, enumerations). -/
def Protection.byte : Protection → Byte
  | .clear => 0
  | .scrambled => 1

def PeriodMode.byte : PeriodMode → Byte
  | .repeating => 0
  | .hold => 1
  | .clearWindow => 2

def Phase.byte : Phase → Byte
  | .zero => 0
  | .one => 1

def Bank.byte : Bank → Byte
  | .zero => 0
  | .one => 1

/-- The configuration as a block, for SVC_QUERY. -/
def SvcConfig.toBlock (c : SvcConfig) : CfgBlock :=
  { base := BitVec.ofNat 16 c.base, k := byteOf c.k, protection := c.protection.byte,
    floor := BitVec.ofNat 16 c.floor, weight := byteOf c.weight, qinit := byteOf c.qinit, qmin := byteOf c.qmin,
    qmax := byteOf c.qmax, rndIntra := byteOf c.rndIntra, rndPred := byteOf c.rndPred,
    periodMode := c.periodMode.byte, p := byteOf c.p, c := BitVec.ofNat 16 c.c, lead := byteOf c.lead,
    e := byteOf c.e, nmin := byteOf c.nmin, dmax := byteOf c.dmax, z := byteOf c.z,
    startPhase := c.startPhase.byte }

/-! ## Port requests -/

/-- A request of either port, its fields as carried (R193). -/
inductive Request where
  | svcDefine (service : Byte) (cfg : CfgBlock)
  | svcModify (service : Byte) (expected : Half) (mask : BitVec 24) (cfg : CfgBlock)
  | svcStart (service : Byte)
  | svcStop (service flush : Byte)
  | svcRelease (service : Byte)
  | svcQuery (service : Byte)
  | weightsLoad (intra predicted : WeightTable)
  | weightsQuery
  | muxSet (f : Half) (l a : Byte)
  | muxQuery
  | status
  | reset
  | faultsRead (service : Byte)
  | faultsAck (service : Byte)
  | checkRead
  | checkClear
  | checkMode (mode : Byte)
  | keyLoad (service phase : Byte) (expected : Half) (key : BitVec 64) (payload : List Byte)
  | keyClear (service phase : Byte) (expected : Half)
  | keyPurge
  | keyStatus (service selector : Byte)
  | requestsRead
  deriving DecidableEq, Repr

/-- The code of a request (R193). -/
def Request.code : Request → Byte
  | .svcDefine .. => 0x01
  | .svcModify .. => 0x02
  | .svcStart .. => 0x03
  | .svcStop .. => 0x04
  | .svcRelease .. => 0x05
  | .svcQuery .. => 0x06
  | .weightsLoad .. => 0x10
  | .weightsQuery => 0x11
  | .muxSet .. => 0x18
  | .muxQuery => 0x19
  | .status => 0x20
  | .reset => 0x21
  | .faultsRead .. => 0x28
  | .faultsAck .. => 0x29
  | .checkRead => 0x2A
  | .checkClear => 0x2B
  | .checkMode .. => 0x2C
  | .keyLoad .. => 0x40
  | .keyClear .. => 0x41
  | .keyPurge => 0x42
  | .keyStatus .. => 0x43
  | .requestsRead => 0x44

/-- The port whose command a request is (R172). -/
def Request.port : Request → PortId
  | .keyLoad .. | .keyClear .. | .keyPurge | .keyStatus .. | .requestsRead => .key
  | .svcDefine .. | .svcModify .. | .svcStart .. | .svcStop .. | .svcRelease .. | .svcQuery .. | .weightsLoad ..
  | .weightsQuery | .muxSet .. | .muxQuery | .status | .reset | .faultsRead .. | .faultsAck .. | .checkRead
  | .checkClear | .checkMode .. => .control

/-- The eight bytes of a key, K_hi first (R193). -/
def keyBytes (key : BitVec 64) : List Byte := be32 (key.extractLsb' 32 32) ++ be32 (key.extractLsb' 0 32)

/-- The three bytes of a selection mask (R193). -/
def maskBytes (m : BitVec 24) : List Byte := [m.extractLsb' 16 8, m.extractLsb' 8 8, m.extractLsb' 0 8]

/-- The field bytes of a request (R193). -/
def Request.fields : Request → List Byte
  | .svcDefine n cfg => n :: cfgBytes cfg
  | .svcModify n expected mask cfg => n :: (be16 expected ++ maskBytes mask ++ cfgBytes cfg)
  | .svcStart n | .svcRelease n | .svcQuery n | .faultsRead n | .faultsAck n => [n]
  | .svcStop n flush => [n, flush]
  | .weightsLoad intra predicted => intra.toList ++ predicted.toList
  | .muxSet f l a => be16 f ++ [l, a]
  | .checkMode m => [m]
  | .keyLoad n phase expected key payload => n :: phase :: (be16 expected ++ keyBytes key ++ payload)
  | .keyClear n phase expected => n :: phase :: be16 expected
  | .keyStatus n selector => [n, selector]
  | .weightsQuery | .muxQuery | .status | .reset | .checkRead | .checkClear | .keyPurge | .requestsRead => []

/-- The sum of a message's bytes modulo 256 (R167). -/
def byteSum (bytes : List Byte) : Byte := bytes.foldl (· + ·) 0

/-- A whole message: code, length, fields, check (R167). -/
def message (code : Byte) (fields : List Byte) : List Byte :=
  let body := code :: byteOf fields.length :: fields
  body ++ [0 - byteSum body]

/-- The message that carries a request. -/
def Request.message (r : Request) : List Byte := Sys2Proof.Machine.message r.code r.fields

/-- A weight table of sixteen bytes. -/
def tableOf (bytes : List Byte) : Option WeightTable :=
  if h : bytes.length = 16 then some ⟨bytes.toArray, by simpa using h⟩ else none

/-- The codes of a port's commands (R172, R193). -/
def portCodes : PortId → List Byte
  | .control => [0x01, 0x02, 0x03, 0x04, 0x05, 0x06, 0x10, 0x11, 0x18, 0x19, 0x20, 0x21, 0x28, 0x29, 0x2A, 0x2B, 0x2C]
  | .key => [0x40, 0x41, 0x42, 0x43, 0x44]

/-- Whether a command's field bytes may be `n` long (R193). -/
def lengthAllowed (code : Byte) (n : Nat) : Bool :=
  if code = 0x01 then n == 23
  else if code = 0x02 then n == 28
  else if code = 0x04 then n == 2
  else if code = 0x10 then n == 32
  else if code = 0x18 then n == 4
  else if code = 0x40 then 12 ≤ n
  else if code = 0x41 then n == 4
  else if code = 0x43 then n == 2
  else if code ∈ [(0x03 : Byte), 0x05, 0x06, 0x28, 0x29, 0x2C] then n == 1
  else n == 0

/-- The request that a command's field bytes carry (R193); none where they do not have the command's form. -/
def readFields (code : Byte) (fs : List Byte) : Option Request :=
  if code = 0x01 then
    match fs with
    | n :: rest => (readCfgBlock rest).map (Request.svcDefine n)
    | [] => none
  else if code = 0x02 then
    match fs with
    | n :: r1 :: r0 :: m2 :: m1 :: m0 :: rest =>
      (readCfgBlock rest).map (Request.svcModify n (r1 ++ r0) (m2 ++ m1 ++ m0))
    | _ => none
  else if code = 0x10 then
    match tableOf (fs.take 16), tableOf (fs.drop 16) with
    | some intra, some predicted => some (.weightsLoad intra predicted)
    | _, _ => none
  else if code = 0x18 then
    match fs with
    | [f1, f0, l, a] => some (.muxSet (f1 ++ f0) l a)
    | _ => none
  else if code = 0x40 then
    match fs with
    | n :: ph :: g1 :: g0 :: k7 :: k6 :: k5 :: k4 :: k3 :: k2 :: k1 :: k0 :: payload =>
      some (.keyLoad n ph (g1 ++ g0) (k7 ++ k6 ++ k5 ++ k4 ++ k3 ++ k2 ++ k1 ++ k0) payload)
    | _ => none
  else if code = 0x41 then
    match fs with
    | [n, ph, g1, g0] => some (.keyClear n ph (g1 ++ g0))
    | _ => none
  else
    match fs with
    | [] =>
      if code = 0x11 then some .weightsQuery
      else if code = 0x19 then some .muxQuery
      else if code = 0x20 then some .status
      else if code = 0x21 then some .reset
      else if code = 0x2A then some .checkRead
      else if code = 0x2B then some .checkClear
      else if code = 0x42 then some .keyPurge
      else if code = 0x44 then some .requestsRead
      else none
    | [n] =>
      if code = 0x03 then some (.svcStart n)
      else if code = 0x05 then some (.svcRelease n)
      else if code = 0x06 then some (.svcQuery n)
      else if code = 0x28 then some (.faultsRead n)
      else if code = 0x29 then some (.faultsAck n)
      else if code = 0x2C then some (.checkMode n)
      else none
    | [n, x] =>
      if code = 0x04 then some (.svcStop n x)
      else if code = 0x43 then some (.keyStatus n x)
      else none
    | _ => none

/-- What the framing tests of R168 make of a frame's bytes. -/
inductive Framing where
  /-- FORMAT, with the code as received. -/
  | format (code : Byte)
  /-- UNKNOWN, with the code as received. -/
  | unknown (code : Byte)
  /-- The frame carries this request. -/
  | request (r : Request)
  deriving DecidableEq, Repr

/-- The framing tests of R168, in their order, on the bytes of a frame that carries a request. Bytes after the check
byte are ignored (R167). -/
def frameRequest (port : PortId) (received : List Byte) : Framing :=
  match received with
  | code :: len :: rest =>
    if received.length < len.toNat + 3 then .format code
    else if byteSum (received.take (len.toNat + 3)) ≠ 0 then .format code
    else if code ∉ portCodes port then .unknown code
    else if !lengthAllowed code len.toNat then .format code
    else
      match readFields code (rest.take len.toNat) with
      | some r => .request r
      | none => .format code
  | [code] => .format code
  | [] => .format 0

/-! ## Contribution messages -/

/-- The 12-bit coefficients packed into bytes without gaps (R192). -/
def coefficients : List Byte → Block
  | a :: b :: c :: rest => (a ++ b.extractLsb' 4 4) :: (b.extractLsb' 0 4 ++ c) :: coefficients rest
  | _ => []

/-- The first `n` blocks of 24 bytes each. -/
def readBlocks : Nat → List Byte → List Block
  | 0, _ => []
  | n + 1, bytes => coefficients (bytes.take 24) :: readBlocks n (bytes.drop 24)

/-- The record a message's kind, service and body give; none where the body cannot be read (R192). -/
def readBody (kind : Byte) (n : Svc) (body : List Byte) : Option Record :=
  if kind = 0x01 then
    match body with
    | [n1, n0, kd, s, bps, c1, c0] =>
      if kd = 0 then
        some (.picHead n (n1 ++ n0) .intra (s.extractLsb' 0 7).toNat (bps.extractLsb' 0 7).toNat (c1 ++ c0).toNat)
      else if kd = 1 then
        some (.picHead n (n1 ++ n0) .predicted (s.extractLsb' 0 7).toNat (bps.extractLsb' 0 7).toNat (c1 ++ c0).toNat)
      else none
    | _ => none
  else if kind = 0x02 then
    match body with
    | cnt :: data =>
      if 1 ≤ cnt.toNat ∧ cnt.toNat ≤ 8 ∧ data.length = 24 * cnt.toNat then
        some (.blocks n (readBlocks cnt.toNat data))
      else none
    | [] => none
  else if kind = 0x03 then
    match body with
    | [n1, n0] => some (.picTail n (n1 ++ n0))
    | _ => none
  else none

/-- The record a burst carries; none where its CRC does not match or it cannot be read (R22 second test, R192). -/
def readBurst (burst : List Byte) : Option Record :=
  match burst with
  | kind :: svc :: l1 :: l0 :: rest =>
    let len := (l1 ++ l0 : Half).toNat
    match rest.drop len with
    | [x1, x0] =>
      if crc16 (burst.take (4 + len)) = x1 ++ x0 then
        match svcIndex svc with
        | some n => readBody kind n (rest.take len)
        | none => none
      else none
    | _ => none
  | _ => none

/-- The service number a burst carries in byte 1, if it holds one of 0 to 15 (R184). -/
def burstService (burst : List Byte) : Option Svc :=
  match burst with
  | _ :: svc :: _ => svcIndex svc
  | _ => none

end Sys2Proof.Machine
end

