-- ==== Sys2Proof/Machine/Access.lean ====
section
/-! DEFINITION. Reaching a service's entry, its key slots and its open picture, and changing them: every block's
work goes through these. -/

namespace Sys2Proof.Machine

/-! ## Service entries (R20: sixteen entries, UNUSED or a service) -/

/-- The entry `n`; none when it is UNUSED. -/
def State.svc (s : State) (n : Svc) : Option Service := s.services[n]

/-- The state with entry `n` replaced. -/
def State.putSvc (s : State) (n : Svc) (v : Option Service) : State :=
  { s with services := s.services.set n.val v n.isLt }

/-- The state with the service of entry `n` changed; an UNUSED entry stays UNUSED. -/
def State.modSvc (s : State) (n : Svc) (f : Service → Service) : State :=
  match s.svc n with
  | some v => s.putSvc n (some (f v))
  | none => s

/-- A participant is RUNNING, STALLED or DRAINING (01_services.md). -/
def Service.participant (v : Service) : Bool := v.activity != .defined

/-- Whether entry `n` is a participant. -/
def State.isParticipant (s : State) (n : Svc) : Bool :=
  match s.svc n with
  | some v => v.participant
  | none => false

/-- The number of participants (R99, R175). -/
def State.participantCount (s : State) : Nat := (allServices.filter s.isParticipant).length

/-! ## Key slots (R131) -/

/-- The slot of a phase. -/
def KeyCtx.slot (k : KeyCtx) : Phase → Option KeySlot
  | .zero => k.slot0
  | .one => k.slot1

/-- The key context with the slot of a phase replaced. -/
def KeyCtx.setSlot (k : KeyCtx) (ph : Phase) (v : Option KeySlot) : KeyCtx :=
  match ph with
  | .zero => { k with slot0 := v }
  | .one => { k with slot1 := v }

/-- The current slot. -/
def KeyCtx.current (k : KeyCtx) : Option KeySlot := k.slot k.phase

/-- The next slot. -/
def KeyCtx.next (k : KeyCtx) : Option KeySlot := k.slot k.phase.other

/-- Whether either slot holds a key. -/
def KeyCtx.hasKey (k : KeyCtx) : Bool := k.slot0.isSome || k.slot1.isSome

/-- The state with the key context of service `n` changed. -/
def State.modKeys (s : State) (n : Svc) (f : KeyCtx → KeyCtx) : State :=
  s.modSvc n fun v => { v with keys := f v.keys }

/-! ## Open pictures (R25) -/

/-- The open picture of a service, in IN_PICTURE. -/
def Service.picture (v : Service) : Option OpenPicture :=
  match v.ingest.state with
  | .inPicture p => some p
  | .idle | .discarding => none

/-- The open picture of service `n`. -/
def State.picture (s : State) (n : Svc) : Option OpenPicture :=
  match s.svc n with
  | some v => v.picture
  | none => none

/-- A service with its ingest state replaced. -/
def Service.setIngest (v : Service) (st : IngestState) : Service :=
  { v with ingest := { v.ingest with state := st } }

/-- The state with the open picture of service `n` changed; without one, unchanged. -/
def State.modPicture (s : State) (n : Svc) (f : OpenPicture → OpenPicture) : State :=
  s.modSvc n fun v =>
    match v.ingest.state with
    | .inPicture p => v.setIngest (.inPicture (f p))
    | .idle | .discarding => v

/-! ## Ports (R166) -/

/-- The framing state of a port. -/
def State.port (s : State) : PortId → Port
  | .control => s.control
  | .key => s.key

/-- The state with the framing state of a port replaced. -/
def State.setPort (s : State) (p : PortId) (v : Port) : State :=
  match p with
  | .control => { s with control := v }
  | .key => { s with key := v }

/-! ## Credits (R21) -/

/-- One credit returned: one return signalled on CL_CREDIT and the credit count raised (R21). -/
def State.returnCredit (s : State) : State := { s with credits := s.credits + 1, clCredit := s.clCredit + 1 }

/-- The Packer's work on its record ends and its credit is returned (R24). -/
def State.finishRecord (s : State) : State :=
  match s.packer with
  | some _ => { s with packer := none }.returnCredit
  | none => s

/-- The stage the Packer's work has reached, replaced. -/
def setPhase (ph : WorkPhase) (s : State) : State :=
  match s.packer with
  | some w => { s with packer := some { w with phase := ph } }
  | none => s

/-- A cell delivered on OP_DATA (R112). -/
def State.deliver (s : State) (cell : List Byte) : State := { s with outCell := cell }

end Sys2Proof.Machine
end

