-- ==== Sys2Proof/Machine/Flags.lean ====
section
/-! DEFINITION. The Fault Unit (11_faults_and_checks.md) and the CTL_ATTN line (R176): fault lists, the device check
record, check attention. -/

namespace Sys2Proof.Machine

/-- Entries a fault list can hold (R179). -/
def faultListSize : Nat := 4

/-- A fault list after a code is raised in a frame (R179). -/
def FaultList.raise (l : FaultList) (code : FaultCode) (frame : Word) : FaultList :=
  if l.entries.any (fun e => e.code == code) then
    { l with entries := l.entries.map fun e => if e.code = code then { e with count := min 255 (e.count + 1) } else e }
  else if l.entries.length < faultListSize then
    { l with entries := l.entries ++ [{ code := code, firstFrame := frame, count := 1 }] }
  else { l with more := true }

/-- An empty fault list with its more mark clear (R180). -/
def FaultList.empty : FaultList := { entries := [], more := false }

/-- A fault raised for a service (R179). A list that becomes non-empty asserts CTL_ATTN (R176). -/
def raiseFault (n : Svc) (code : FaultCode) (s : State) : State :=
  match s.svc n with
  | some v =>
    let s' := s.putSvc n (some { v with faults := v.faults.raise code s.frameNumber })
    if v.faults.entries = [] then { s' with ctlAttn := true } else s'
  | none => s

/-- Whether a service's fault list is not empty. -/
def State.isFaulted (s : State) (n : Svc) : Bool :=
  match s.svc n with
  | some v => !v.faults.entries.isEmpty
  | none => false

/-- The services whose fault list is not empty, ascending (R175). -/
def State.faulted (s : State) : List Svc := allServices.filter s.isFaulted

/-- CTL_ATTN falls when no fault list is non-empty and check attention is clear (R176). -/
def dropCtlAttn (s : State) : State :=
  if s.faulted = [] ∧ s.checks.attention = false then { s with ctlAttn := false } else s

/-! ## The device check record -/

/-- The precedence of a class, which is also its byte (R183, 12_formats.md). -/
def CheckClass.precedence : CheckClass → Nat
  | .portFormat => 1
  | .unrouted => 2
  | .poolCorrected => 3
  | .linkCrc => 4
  | .linkOverrun => 5
  | .poolUncorrected => 6

/-- The classes that set check attention under a reporting mode (R185). -/
def CheckClass.reports (c : CheckClass) (mode : Nat) : Bool :=
  match mode with
  | 0 => false
  | 1 => c == .poolUncorrected
  | 2 => c == .poolUncorrected || c == .linkOverrun || c == .linkCrc
  | _ => true

/-- The bit of a class in the flags byte (12_formats.md). -/
def CheckClass.flag (c : CheckClass) : Byte := 1#8 <<< (c.precedence - 1)

/-- Whether a check replaces the retained detail: none is present, or it is of the same or a lower class (R183). -/
def CheckDetail.yieldsTo (d : Option CheckDetail) (c : CheckClass) : Bool :=
  match d with
  | none => true
  | some d => d.cls.precedence ≤ c.precedence

/-- A check recorded in the device check record (R183), with the service and pool cell of its event (R184). Check
attention that becomes pending asserts CTL_ATTN (R185). -/
def recordCheck (c : CheckClass) (service : Option Svc) (cellIndex : Option Nat) (s : State) : State :=
  let detail : CheckDetail := { cls := c, service := service, frame := s.frameNumber, cellIndex := cellIndex }
  let s' :=
    { s with
      checks :=
        { s.checks with
          flags := s.checks.flags ||| c.flag
          detail := if CheckDetail.yieldsTo s.checks.detail c then some detail else s.checks.detail
          attention := s.checks.attention || c.reports s.checks.mode } }
  if c.reports s.checks.mode then { s' with ctlAttn := true } else s'

end Sys2Proof.Machine
end

