-- ==== Sys2Proof/Machine/Ops.lean ====
section
/-! DEFINITION. The shared operations of the Queue Manager (05_cell_queues_and_picture_abandonment.md), the key
request set (R147), and what several blocks do to a service together: abandonment (R84), entry to DEFINED (R6) and the
drain test (R4). -/

namespace Sys2Proof.Machine

/-! ## The cell pool (R75) -/

/-- The cell listed at a number. -/
def lookupCell : List (Nat × PoolCell) → Nat → Option PoolCell
  | [], _ => none
  | (a, c) :: rest, x => if x = a then some c else lookupCell rest x

/-- The list with a cell written at a number, the numbers still rising. -/
def insertCell : List (Nat × PoolCell) → Nat → PoolCell → List (Nat × PoolCell)
  | [], x, v => [(x, v)]
  | (a, c) :: rest, x, v =>
    if x < a then (x, v) :: (a, c) :: rest
    else if x = a then (x, v) :: rest
    else (a, c) :: insertCell rest x v

/-- The list without the cell at a number. -/
def removeCell (l : List (Nat × PoolCell)) (x : Nat) : List (Nat × PoolCell) := l.filter fun e => e.1 != x

/-- The cell the pool holds at a number; `PoolCell.blank` where nothing is listed. -/
def Pool.read (p : Pool) (x : Nat) : PoolCell := (lookupCell p.cells x).getD PoolCell.blank

/-- The pool with a cell written (R78). Writing what an unlisted cell holds removes the entry. -/
def Pool.write (p : Pool) (x : Nat) (v : PoolCell) : Pool :=
  { cells := if v = PoolCell.blank then removeCell p.cells x else insertCell p.cells x v }

/-- The canonical form of the pool: cell numbers strictly rising, and no entry equal to what an unlisted cell holds. -/
abbrev Pool.wf (p : Pool) : Prop :=
  (p.cells.Pairwise fun x y => x.1 < y.1) ∧ ∀ e ∈ p.cells, e.2 ≠ PoolCell.blank

/-! ## Rings (R76) -/

/-- The cells of a service's region, 2^K (R2). -/
def SvcConfig.regionSize (c : SvcConfig) : Nat := 2 ^ c.k

/-- The length of a ring, (write − read) mod 2^K (R76). -/
def Service.ringLength (v : Service) : Nat :=
  (v.queue.write + v.cfg.regionSize - v.queue.read) % v.cfg.regionSize

/-- The free count of a ring (R76). -/
def Service.ringFree (v : Service) : Nat := v.cfg.regionSize - 1 - v.ringLength

/-- Whether a ring is empty (R76). -/
def Service.ringEmpty (v : Service) : Bool := v.queue.read == v.queue.write

/-- Whether a ring is full (R76). -/
def Service.ringFull (v : Service) : Bool := v.ringLength == v.cfg.regionSize - 1

/-- A pointer advanced by one within its region (R75). -/
def SvcConfig.advance (c : SvcConfig) (ptr : Nat) : Nat :=
  if ptr + 1 < c.base + c.regionSize then ptr + 1 else c.base

/-- A pointer stepped back by one within its region (R75). -/
def SvcConfig.retreat (c : SvcConfig) (ptr : Nat) : Nat :=
  if c.base < ptr then ptr - 1 else c.base + c.regionSize - 1

/-- The state with the queue descriptor of service `n` changed. -/
def State.modQueue (s : State) (n : Svc) (f : QueueDesc → QueueDesc) : State :=
  s.modSvc n fun v => { v with queue := f v.queue }

/-- An append at the tail of a ring (R78); none when the ring is full, and then nothing changes. -/
def appendCell (n : Svc) (c : PoolCell) (s : State) : Option State :=
  match s.svc n with
  | some v =>
    if v.ringFull then none
    else
      some (({ s with pool := Pool.write s.pool v.queue.write c } : State).modQueue n fun q =>
        { q with write := v.cfg.advance q.write })
  | none => none

/-! ## GAP markers (R88, R89) -/

/-- The payload of a GAP cell (R191). -/
def Marker.payload (m : Marker) : BitVec 736 :=
  payloadOfBytes (be16 m.firstNumber ++ [flagByte m.cut, byteOf m.count])

/-- The GAP cell that carries a marker (R89, R191). -/
def Marker.gapCell (m : Marker) (n : Svc) : PoolCell :=
  { kind := .gap, service := n, start := false, validBits := 32, payload := m.payload }

/-- The pending marker after one more abandoned picture (R88): created, or its count raised, saturating at 255. -/
def Marker.fold (m : Option Marker) (number : Half) (cut : Bool) : Marker :=
  match m with
  | none => { firstNumber := number, cut := cut, count := 1 }
  | some m => { m with count := min 255 (m.count + 1) }

/-- The loss of a picture recorded in the pending marker (R88). -/
def recordLoss (n : Svc) (number : Half) (cut : Bool) (s : State) : State :=
  s.modQueue n fun q => { q with marker := some (Marker.fold q.marker number cut) }

/-- The marker test (R89): a pending marker is appended as a GAP cell if the ring is not full. -/
def markerTest (n : Svc) (s : State) : State :=
  match s.svc n with
  | some v =>
    match v.queue.marker with
    | some m =>
      match appendCell n (m.gapCell n) s with
      | some s' => s'.modQueue n fun q => { q with marker := none }
      | none => s
    | none => s
  | none => s

/-! ## Weight bank users (R42, R43) -/

/-- One user more on a bank (R42). -/
def Quantizer.addUser (q : Quantizer) : Bank → Quantizer
  | .zero => { q with users0 := q.users0 + 1 }
  | .one => { q with users1 := q.users1 + 1 }

/-- One user less on a bank (R43). -/
def Quantizer.dropUser (q : Quantizer) : Bank → Quantizer
  | .zero => { q with users0 := q.users0 - 1 }
  | .one => { q with users1 := q.users1 - 1 }

/-- The users count of a bank (R41). -/
def Quantizer.users (q : Quantizer) : Bank → Nat
  | .zero => q.users0
  | .one => q.users1

/-- The contents of a bank (R41). -/
def Quantizer.bank (q : Quantizer) : Bank → WeightBank
  | .zero => q.bank0
  | .one => q.bank1

/-! ## Abandonment (R84 to R88) -/

/-- The Packer is closing the open picture of service `n` by the picture's own PIC_TAIL. -/
def State.closingByTail (s : State) (n : Svc) : Bool :=
  match s.packer with
  | some w =>
    match w.record, w.phase with
    | .picTail m _, .closing _ => m == n
    | _, _ => false
  | none => false

/-- The Packer is closing the open picture of service `n` because a PIC_HEAD forced it. -/
def State.closingByHead (s : State) (n : Svc) : Bool :=
  match s.packer with
  | some w =>
    match w.record, w.phase with
    | .picHead m _ _ _ _ _, .closing _ => m == n
    | _, _ => false
  | none => false

/-- The ingest state an abandonment leaves: IDLE when it ends a close made by the picture's own tail, DISCARDING
otherwise (R33, R37). -/
def State.abandonedState (s : State) (n : Svc) : IngestState :=
  if s.closingByTail n then .idle else .discarding

/-- The open picture of a service is abandoned (R84): partial cell and rate context end with it, the bank user is
released, and a withdrawal starts. While no cell of the picture is in the ring the withdrawal ends at once, as a skip
(R84, R87). -/
def abandonPicture (n : Svc) (s : State) : State :=
  match s.svc n with
  | some v =>
    match v.ingest.state with
    | .inPicture p =>
      let s' := ({ s with quant := s.quant.dropUser p.bank } : State).modSvc n fun v =>
        v.setIngest (s.abandonedState n)
      match p.firstCell with
      | .unwritten => recordLoss n p.number false s'
      | .queued _ | .sent _ =>
        s'.modQueue n fun q => { q with withdrawal := some { number := p.number, firstCell := p.firstCell } }
    | .idle | .discarding => s
  | none => s

/-- An append of a picture cell found the ring full (R85). -/
def overflow (n : Svc) (s : State) : State := abandonPicture n (raiseFault n .queueOverflow s)

/-- The withdrawal in flight on a ring ends and its loss is recorded: a cut if the first cell was sent, a skip
otherwise (R87, R88). -/
def endWithdrawal (n : Svc) (w : Withdrawal) (s : State) : State :=
  let cut := match w.firstCell with
    | .sent _ => true
    | .unwritten | .queued _ => false
  recordLoss n w.number cut (s.modQueue n fun q => { q with withdrawal := none })

/-- One step of the withdrawal in flight on a ring (R86). -/
def withdrawStep (n : Svc) (s : State) : State :=
  match s.svc n with
  | some v =>
    match v.queue.withdrawal with
    | some w =>
      if v.ringEmpty || w.firstCell == .unwritten then endWithdrawal n w s
      else if w.firstCell == .queued v.queue.write then endWithdrawal n w s
      else s.modQueue n fun q => { q with write := v.cfg.retreat q.write }
    | none => s
  | none => s

/-- A withdrawal is in flight on the ring of service `n`. -/
def State.withdrawing (s : State) (n : Svc) : Bool :=
  match s.svc n with
  | some v => v.queue.withdrawal.isSome
  | none => false

/-! ## The key request set and KEY_ATTN (R147, R149) -/

/-- A request set with a request added (R147): a service's entry keeps its place and takes the wanted phase, and a
request that is not urgent does not clear its flag. -/
def insertRequest (set : List KeyRequest) (r : KeyRequest) : List KeyRequest :=
  if set.any (fun e => e.service == r.service) then
    set.map fun e =>
      if e.service = r.service then { e with phase := r.phase, urgent := e.urgent || r.urgent } else e
  else set ++ [r]

/-- A request added for a service (R147, R148); KEY_ATTN is asserted while the set is not empty. -/
def addRequest (n : Svc) (ph : Phase) (urgent : Bool) (s : State) : State :=
  { s with
    requests := insertRequest s.requests { service := n, phase := ph, urgent := urgent }
    keyAttn := true }

/-- The entries a test picks leave the set; KEY_ATTN falls when the last one is gone (R147, R149). -/
def dropRequests (gone : KeyRequest → Bool) (s : State) : State :=
  let left := s.requests.filter fun e => !gone e
  { s with requests := left, keyAttn := !left.isEmpty }

/-- Any entry of a service leaves the set (R6, R18, R137). -/
def dropServiceRequests (n : Svc) (s : State) : State := dropRequests (fun e => e.service == n) s

/-- The entry of a service for a phase leaves the set (R149, a key stored in that slot). -/
def dropPhaseRequest (n : Svc) (ph : Phase) (s : State) : State :=
  dropRequests (fun e => e.service == n && e.phase == ph) s

/-! ## Entry to DEFINED and the drain test (R4, R6) -/

/-- A participant enters DEFINED (R6). -/
def enterDefined (n : Svc) (s : State) : State :=
  let s' := s.modSvc n fun v =>
    { v.setIngest .idle with
      activity := .defined
      alloc := { v.alloc with deficit := 0 }
      keys := { v.keys with prot := none } }
  { dropServiceRequests n s' with dueList := s.dueList.filter (· != n) }

/-- The four conditions of a completed drain (R4): no open picture, an empty ring, no marker, no withdrawal. -/
def Service.drained (v : Service) : Bool :=
  v.picture.isNone && v.ringEmpty && v.queue.marker.isNone && v.queue.withdrawal.isNone

/-- The drain test of R4. A DRAINING service in BLACKOUT does not complete its drain (R5, R16, R143), even when the close
of its open picture appends nothing to an empty ring and so brings the four conditions about; the exit from BLACKOUT
makes the test again (notes/assumptions/25.md). -/
def drainTest (n : Svc) (s : State) : State :=
  match s.svc n with
  | some v =>
    if v.activity = .draining ∧ v.keys.prot ≠ some .blackout ∧ v.drained = true then enterDefined n s else s
  | none => s

end Sys2Proof.Machine
end

