-- ==== Sys2Proof/Machine/Alloc.lean ====
section
/-! DEFINITION. The Allocator (06_multiplex_allocation.md): the capacity check and the division of an allocation
period. -/

namespace Sys2Proof.Machine

/-- P, the payload slots of a frame (R96). -/
def Mux.payloadSlots (m : Mux) : Nat := m.f - m.l

/-- P × A, the payload slots of an allocation period (R96). -/
def Mux.periodSlots (m : Mux) : Nat := m.payloadSlots * m.a

/-- ceil(a / b). -/
def ceilDiv (a b : Nat) : Nat := (a + b - 1) / b

/-- The services that are participants, ascending, with their entries (R103). -/
def State.participants (s : State) : List (Svc × Service) :=
  allServices.filterMap fun n =>
    match s.svc n with
    | some v => if v.participant then some (n, v) else none
    | none => none

/-- The payload slots per period a service commits: floor × A, and ceil(A / E) if it is SCRAMBLED (R13). -/
def SvcConfig.committed (c : SvcConfig) (a : Nat) : Nat :=
  c.floor * a + if c.protection = .scrambled then ceilDiv a c.e else 0

/-- The left side of the capacity check over the present participants (R13, R99). -/
def State.committedSlots (s : State) : Nat :=
  (s.participants.map fun x => x.2.cfg.committed s.inForce.a).sum

/-- The capacity check of R13, entry `n` taken as a participant with the configuration given. -/
def capacityOk (s : State) (n : Svc) (cfg : SvcConfig) : Bool :=
  ((s.participants.filter fun x => x.1 != n).map fun x => x.2.cfg.committed s.inForce.a).sum
    + cfg.committed s.inForce.a ≤ s.inForce.periodSlots

/-- The entitlement reserve R_e (R104). -/
def entitlementReserve (a : Nat) (ps : List (Svc × Service)) : Nat :=
  (ps.map fun x => if x.2.cfg.protection = .scrambled then ceilDiv a x.2.cfg.e else 0).sum

/-- The demand of a participant (R105). -/
def Service.demand (v : Service) : Nat :=
  if v.activity = .running then v.cfg.weight * v.alloc.complexity else 0

/-- One participant's line of the division: its number and its demand (R105). -/
structure DemandLine where
  service : Svc
  demand : Nat
  deriving DecidableEq, Repr

/-- The sum of the demands, D (R105). -/
def totalDemand (lines : List DemandLine) : Nat := (lines.map fun x => x.demand).sum

/-- The first share of a participant, floor(R × d / D) (R106). -/
def firstShare (remainder total : Nat) (x : DemandLine) : Nat := remainder * x.demand / total

/-- The remainder of a participant, (R × d) mod D (R106). -/
def shareRemainder (remainder total : Nat) (x : DemandLine) : Nat := remainder * x.demand % total

/-- `y` is served before `x` when the leftover is given out: a larger remainder, or an equal one and a lower number
(R106). -/
def servedBefore (remainder total : Nat) (y x : DemandLine) : Bool :=
  shareRemainder remainder total x < shareRemainder remainder total y ||
    (shareRemainder remainder total x == shareRemainder remainder total y && y.service < x.service)

/-- The extra share of a participant (R106): nothing when D = 0; otherwise its first share, and one slot more if fewer
participants than the leftover are served before it. -/
def extraShare (remainder : Nat) (lines : List DemandLine) (x : DemandLine) : Nat :=
  let total := totalDemand lines
  if total = 0 then 0
  else
    let leftover := remainder - (lines.map (firstShare remainder total)).sum
    let rank := (lines.filter fun y => servedBefore remainder total y x).length
    firstShare remainder total x + if rank < leftover then 1 else 0

/-- The remainder R of a period: P × A less the reserve and the floors (R104, R105). -/
def periodRemainder (m : Mux) (ps : List (Svc × Service)) : Nat :=
  m.periodSlots - entitlementReserve m.a ps - (ps.map fun x => x.2.cfg.floor * m.a).sum

/-- The grant of a participant (R107). -/
def grantOf (m : Mux) (ps : List (Svc × Service)) (n : Svc) (v : Service) : Nat :=
  v.cfg.floor * m.a
    + extraShare (periodRemainder m ps) (ps.map fun x => { service := x.1, demand := x.2.demand })
        { service := n, demand := v.demand }

/-- A participant's context after a period start that gives it a grant (R103, R107). -/
def Service.granted (v : Service) (grant : Nat) : Service :=
  { v with
    alloc :=
      { v.alloc with
        latchedFloor := v.cfg.floor
        latchedWeight := v.cfg.weight
        grant := grant
        deficit := grant
        fallback := false } }

/-- A period start (R103 to R107): the grants of all participants are formed from the state as it stands, and set
together. -/
def allocatePeriod (s : State) : State :=
  s.participants.foldl (fun t x => t.putSvc x.1 (some (x.2.granted (grantOf s.frameStruct s.participants x.1 x.2)))) s

end Sys2Proof.Machine
end

