-- ==== Sys2Proof/Machine/Keys.lean ====
section
/-! DEFINITION. The Key Unit's shared operations (08_key_periods_and_changeover.md): the period timer, readiness,
changeover, BLACKOUT, requests, entitlement timing. -/

namespace Sys2Proof.Machine

/-- The service's period runs on a timer: REPEAT, or CLEAR_WINDOW with its window spent (R133). The window spent mark
belongs to CLEAR_WINDOW services alone (R131; notes/assumptions/21.md). -/
def Service.timed (v : Service) : Bool :=
  match v.cfg.periodMode with
  | .repeating => true
  | .hold => false
  | .clearWindow => v.keys.windowSpent

/-- The timer steps at frame starts: WINDOW, or SCRAMBLED when timed (R134). -/
def Service.timerRuns (v : Service) : Bool :=
  match v.keys.prot with
  | some .window => true
  | some .scrambled => v.timed
  | _ => false

/-- The remaining frames of a timer (R134). -/
def PeriodTimer.remaining (t : PeriodTimer) (p : Nat) : Nat := (t.count - 1) * p + t.prescale

/-- One step of a running timer (R134). -/
def PeriodTimer.step (t : PeriodTimer) (p : Nat) : PeriodTimer :=
  if t.prescale ≤ 1 then { prescale := p, count := t.count - 1 } else { t with prescale := t.prescale - 1 }

/-- The phase of the slot a running period asks for: the current slot in WINDOW, the next slot otherwise (R148). -/
def KeyCtx.wantedPhase (k : KeyCtx) : Phase := if k.prot = some .window then k.phase else k.phase.other

/-- A request that is not urgent added for the wanted slot, and the request mark set, if the slot is empty (R148). -/
def requestWanted (n : Svc) (s : State) : State :=
  match s.svc n with
  | some v =>
    if (v.keys.slot v.keys.wantedPhase).isNone then
      addRequest n v.keys.wantedPhase false (s.modKeys n fun k => { k with requestMark := true })
    else s
  | none => s

/-- The period timer loaded (R134), with the reload test (R148). -/
def loadTimer (n : Svc) (s : State) : State :=
  match s.svc n with
  | some v =>
    let s' := s.modKeys n fun k =>
      { k with timer := { prescale := v.cfg.p, count := v.cfg.c }, requestMark := false }
    if v.cfg.p * v.cfg.c ≤ v.cfg.lead then requestWanted n s' else s'
  | none => s

/-- The lead test of a timer that stepped without expiring (R148). -/
def leadTest (n : Svc) (s : State) : State :=
  match s.svc n with
  | some v =>
    if v.keys.timer.remaining v.cfg.p = v.cfg.lead ∧ v.keys.requestMark = false then requestWanted n s else s
  | none => s

/-- A slot holds a key that has been sent at least Nmin times (R138, R142). -/
def slotReady (nmin : Nat) (slot : Option KeySlot) : Bool :=
  match slot with
  | some k => nmin ≤ k.sent
  | none => false

/-- A service is ready when its next slot holds a key with sent count at least Nmin (R138). -/
def Service.ready (v : Service) : Bool := slotReady v.cfg.nmin v.keys.next

/-- A changeover (R137). The request that asked for the slot now current leaves the set before the reload test can
ask for the new next slot (R148, R149; notes/assumptions/16.md). -/
def changeover (n : Svc) (s : State) : State :=
  match s.svc n with
  | some v =>
    let s1 := s.modSvc n fun v =>
      { v with
        cellSeq := 0
        keys :=
          { v.keys.setSlot v.keys.phase none with
            phase := v.keys.phase.other
            generation := v.keys.generation + 1
            stamp := some s.frameNumber
            prot := some .scrambled
            deferral := 0
            countdown := v.cfg.e } }
    let s2 := dropServiceRequests n s1
    if v.timed then loadTimer n s2 else s2
  | none => s

/-- The urgent request for the current phase of a service in BLACKOUT (R148). -/
def requestCurrent (n : Svc) (s : State) : State :=
  match s.svc n with
  | some v => addRequest n v.keys.phase true s
  | none => s

/-- Entry to BLACKOUT (R143): deferral counter 0, the fault BLACKOUT, an urgent request for the current phase. -/
def enterBlackout (n : Svc) (s : State) : State :=
  requestCurrent n <| raiseFault n .blackout <| s.modKeys n fun k =>
    { k with prot := some .blackout, deferral := 0 }

/-- Exit from BLACKOUT by a key stored in the empty current slot (R144). -/
def exitBlackout (n : Svc) (s : State) : State :=
  match s.svc n with
  | some v =>
    let s1 := s.modSvc n fun v => { v with cellSeq := 0, keys := { v.keys with prot := some .scrambled } }
    if v.cfg.periodMode = .hold then s1
    else loadTimer n (s1.modKeys n fun k => { k with windowSpent := true })
  | none => s

/-- A submission to the entitlement due list (R118): a service that has an entry leaves the list as it is. -/
def submitEntitlement (n : Svc) (s : State) : State :=
  if n ∈ s.dueList then s else { s with dueList := s.dueList ++ [n] }

/-- The entitlement countdown has run out: the service is submitted and the countdown loaded with E (R145). -/
def countdownExpiry (n : Svc) (s : State) : State :=
  submitEntitlement n (s.modSvc n fun v => { v with keys := { v.keys with countdown := v.cfg.e } })

/-- The period timer of a SCRAMBLED service has expired (R136): a changeover if it is ready, DEFERRED otherwise, with
an urgent request when the next slot is empty. -/
def periodExpiry (n : Svc) (s : State) : State :=
  match s.svc n with
  | some v =>
    if v.ready then changeover n s
    else
      let s1 := s.modKeys n fun k => { k with prot := some .deferred, deferral := 0 }
      if v.keys.next.isNone then addRequest n v.keys.phase.other true s1 else s1
  | none => s

/-- The timer of a service in WINDOW has expired (R142): SCRAMBLED under a ready current key, otherwise KEY_LATE and
BLACKOUT. The window spent mark is set at a ready end, and left as it is at an unready one. DESIGN CHOICE
(notes/assumptions/27.md): R131 and R15 say that the mark is set once the window has ended, R142 sets it at a ready end
and R144 at the exit from BLACKOUT; the model follows R142 and R144, so that in the BLACKOUT of an unready end the mark
is clear and KEY_STATUS still reports CLEAR_WINDOW. -/
def windowExpiry (n : Svc) (s : State) : State :=
  match s.svc n with
  | some v =>
    if slotReady v.cfg.nmin v.keys.current then
      loadTimer n (s.modKeys n fun k => { k with prot := some .scrambled, windowSpent := true })
    else enterBlackout n (raiseFault n .keyLate s)
  | none => s

/-- The deferral counter has reached Dmax (R139): LATE, with KEY_LATE raised. -/
def deferralExpiry (n : Svc) (s : State) : State :=
  raiseFault n .keyLate (s.modKeys n fun k => { k with prot := some .late })

/-- One ENTITLE cell counted against a slot, saturating at 255 (R146). -/
def countSend (n : Svc) (ph : Phase) (s : State) : State :=
  s.modKeys n fun k => k.setSlot ph ((k.slot ph).map fun x => { x with sent := min 255 (x.sent + 1) })

end Sys2Proof.Machine
end

