-- ==== Sys2Proof/Machine/Replies.lean ====
section
/-! DEFINITION. What the part answers (R171, R194): response codes and the fields of each response. -/

namespace Sys2Proof.Machine

/-- The response codes (R171). -/
inductive RespCode where
  | ok
  | busy
  | range
  | noService
  | stale
  | capacity
  | overlap
  | slotInUse
  | notScrambled
  | format
  | unknown
  deriving DecidableEq, Repr

/-- The byte of a response code (12_formats.md). -/
def RespCode.byte : RespCode → Byte
  | .ok => 0
  | .busy => 1
  | .range => 2
  | .noService => 3
  | .stale => 4
  | .capacity => 5
  | .overlap => 6
  | .slotInUse => 7
  | .notScrambled => 8
  | .format => 9
  | .unknown => 10

/-- A command's answer: its code and its own fields, which follow the code and the take number (R171). -/
structure Reply where
  code : RespCode
  fields : List Byte
  deriving DecidableEq, Repr

/-- The byte of a service state (12_formats.md); UNUSED is 0. -/
def Activity.byte : Activity → Byte
  | .defined => 1
  | .running => 2
  | .stalled => 3
  | .draining => 4

def ProtState.byte : ProtState → Byte
  | .clear => 0
  | .window => 1
  | .scrambled => 2
  | .deferred => 3
  | .late => 4
  | .blackout => 5

def IngestState.byte : IngestState → Byte
  | .idle => 0
  | .inPicture _ => 1
  | .discarding => 2

def StartCause.byte : StartCause → Byte
  | .power => 0
  | .line => 1
  | .command => 2

def FaultCode.byte : FaultCode → Byte
  | .inputLost => 1
  | .pictureFormat => 2
  | .pictureUnclosed => 3
  | .pictureShort => 4
  | .pictureExcess => 5
  | .strayInput => 6
  | .queueOverflow => 7
  | .levelSaturated => 8
  | .keyLate => 9
  | .blackout => 10

/-- The byte of a service number. -/
def svcByte (n : Svc) : Byte := byteOf n.val

/-- The entry a service byte names, when it is not UNUSED. -/
def State.named (s : State) (nb : Byte) : Option (Svc × Service) :=
  match svcIndex nb with
  | some n => (s.svc n).map fun v => (n, v)
  | none => none

/-- Service, state and revision as they stand (R1, R194); state UNUSED and revision 0 without a service. -/
def svcFields (nb : Byte) (s : State) : List Byte :=
  match s.named nb with
  | some (_, v) => nb :: v.activity.byte :: be16 v.revision
  | none => [nb, 0, 0, 0]

/-- The answer to a service command (R7, R194). -/
def svcReply (code : RespCode) (nb : Byte) (s : State) : Reply := { code := code, fields := svcFields nb s }

/-- A list of entries of a fault list (R194). -/
def faultEntryBytes (e : FaultEntry) : List Byte := e.code.byte :: (be32 e.firstFrame ++ [byteOf e.count])

/-- The fields of FAULTS_READ and FAULTS_ACK (R194). -/
def faultFields (nb : Byte) (l : FaultList) : List Byte :=
  [nb, byteOf l.entries.length, flagByte l.more] ++ l.entries.flatMap faultEntryBytes

/-- The fields of CHECK_READ and CHECK_CLEAR (R194): absent fields carry their placeholders. -/
def checkFields (c : CheckRecord) : List Byte :=
  c.flags ::
    ((match c.detail with
      | some d =>
        [1, byteOf d.cls.precedence, (d.service.map svcByte).getD 0xFF] ++ be32 d.frame
          ++ ((d.cellIndex.map be16Of).getD [0xFF, 0xFF])
      | none => [0, 0, 0xFF] ++ be32 0 ++ [0xFF, 0xFF])
      ++ [flagByte c.attention, byteOf c.mode])

/-- The fields of KEY_LOAD and KEY_CLEAR for a service (R150, R194). -/
def keyFields (nb : Byte) (k : KeyCtx) : List Byte :=
  nb :: (be16 k.generation ++ [k.phase.byte, byteOf (k.slot0.isSome.toNat + 2 * k.slot1.isSome.toNat)])

/-- The answer to KEY_LOAD or KEY_CLEAR (R150): without a service, the service number alone (R194). -/
def keyReply (code : RespCode) (nb : Byte) (s : State) : Reply :=
  { code := code
    fields := match s.named nb with
      | some (_, v) => keyFields nb v.keys
      | none => [nb] }

/-- The number of a frame's start seen `k` frame starts from now (R99, R114). -/
def frameNumberAfter (s : State) (k : Nat) : Word :=
  if s.frameBegun then s.frameNumber + BitVec.ofNat 32 k else s.frameNumber + BitVec.ofNat 32 (k - 1)

/-- The A that the next frame start will use (R99). -/
def nextPeriodA (s : State) : Nat := if s.adoptionPending then s.inForce.a else s.frameStruct.a

/-- The frame starts from now to the next period start (R99). -/
def framesToPeriodStart (s : State) : Nat :=
  ([1, 2, 3, 4, 5, 6, 7, 8, 9, 10, 11, 12, 13, 14, 15, 16].find? fun k =>
    (frameNumberAfter s k).toNat % nextPeriodA s == 0).getD 16

/-- F, L and A as four bytes (R194). -/
def muxBytes (m : Mux) : List Byte := be16Of m.f ++ [byteOf m.l, byteOf m.a]

/-- The fields of MUX_SET (R97, R194). -/
def muxSetFields (s : State) : List Byte :=
  muxBytes s.inForce ++ be16Of s.inForce.payloadSlots ++ [flagByte s.adoptionPending]

/-- The fields of MUX_QUERY (R99, R194). -/
def muxQueryFields (s : State) : List Byte :=
  muxBytes s.inForce ++ be16Of s.inForce.payloadSlots ++ be16Of s.inForce.periodSlots ++ [flagByte s.adoptionPending]
    ++ muxBytes (if s.adoptionPending then s.frameStruct else s.inForce)
    ++ [byteOf s.participantCount] ++ be16Of s.committedSlots ++ [byteOf (framesToPeriodStart s)]

/-- The fields of STATUS (R175, R194). -/
def statusFields (s : State) : List Byte :=
  s.startCause.byte :: (be32 s.frameNumber
    ++ [flagByte s.checks.attention, s.quant.active.byte, byteOf s.participantCount, byteOf s.faulted.length]
    ++ s.faulted.map svcByte)

/-- The fields of WEIGHTS_LOAD (R44, R194). -/
def weightsFields (q : Quantizer) : List Byte := [q.active.byte, byteOf q.users0, byteOf q.users1]

/-- The tables of both banks, in bank order (R46). -/
def bankTables (q : Quantizer) : List Byte :=
  q.bank0.intra.toList ++ q.bank0.predicted.toList ++ q.bank1.intra.toList ++ q.bank1.predicted.toList

/-- The marker fields of SVC_QUERY (R194). -/
def markerFields (m : Option Marker) : List Byte :=
  match m with
  | some m => 1 :: (be16 m.firstNumber ++ [flagByte m.cut, byteOf m.count])
  | none => [0, 0, 0, 0, 0]

/-- The record of SVC_QUERY (R19, R194). -/
def queryFields (nb : Byte) (v : Service) : List Byte :=
  [nb, v.activity.byte] ++ be16 v.revision ++ cfgBytes v.cfg.toBlock ++ [v.keys.phase.byte] ++ be16 v.keys.generation
    ++ [if v.participant then (v.keys.prot.map ProtState.byte).getD 0xFF else 0xFF]
    ++ be16Of v.ringLength ++ markerFields v.queue.marker ++ [v.ingest.state.byte]
    ++ (if v.participant then
          be16Of v.alloc.grant ++ be16Of v.alloc.deficit ++ [flagByte v.alloc.fallback] ++ be16Of v.alloc.complexity
        else [0, 0, 0, 0, 0, 0, 0])
    ++ [flagByte (!v.faults.entries.isEmpty)]

/-- The period mode KEY_STATUS reports: REPEAT once a CLEAR_WINDOW service's window is spent (R155). -/
def Service.reportedMode (v : Service) : PeriodMode :=
  if v.cfg.periodMode = .clearWindow ∧ v.keys.windowSpent = true then .repeating else v.cfg.periodMode

/-- The period field of KEY_STATUS (R155). -/
def Service.reportedPeriod (v : Service) (selector : Byte) : Nat :=
  if selector = 0 then v.cfg.p * v.cfg.c
  else if v.timerRuns then v.keys.timer.remaining v.cfg.p
  else 0

/-- A slot in KEY_STATUS: present, and its sent count (R155). -/
def slotStatus (slot : Option KeySlot) : List Byte :=
  match slot with
  | some x => [1, byteOf x.sent]
  | none => [0, 0]

/-- The fields of KEY_STATUS (R155, R194). -/
def keyStatusFields (nb selector : Byte) (v : Service) : List Byte :=
  nb :: (be16 v.keys.generation
    ++ [v.keys.phase.byte, v.reportedMode.byte,
        if v.participant then (v.keys.prot.map ProtState.byte).getD 0xFF else 0xFF]
    ++ slotStatus v.keys.slot0 ++ slotStatus v.keys.slot1 ++ be16Of (v.reportedPeriod selector)
    ++ [if v.participant then byteOf v.keys.deferral else 0, flagByte v.keys.stamp.isSome]
    ++ be32 (v.keys.stamp.getD 0))

/-- One entry of REQUESTS_READ (R156, R194). -/
def requestBytes (s : State) (r : KeyRequest) : List Byte :=
  [svcByte r.service, r.phase.byte, flagByte r.urgent]
    ++ match s.svc r.service with
      | some v => be16 v.keys.generation ++ [v.keys.phase.byte]
      | none => [0, 0, 0]

/-- The fields of REQUESTS_READ (R156, R194). -/
def requestsFields (s : State) : List Byte := byteOf s.requests.length :: s.requests.flatMap (requestBytes s)

end Sys2Proof.Machine
end

