-- ==== Sys2Proof/Machine/Controls.lean ====
section
/-! DEFINITION. The other control-port commands: weight banks (R44, R46), multiplex (R97, R99), STATUS (R175), RESET
(R177), faults and checks (R181 to R188). -/

namespace Sys2Proof.Machine

/-! ## Weight banks -/

/-- Whether every weight of a table lies in 4 to 64 (R41). -/
def weightsInRange (t : WeightTable) : Bool := t.toList.all fun w => 4 ≤ w.toNat && w.toNat ≤ 64

/-- The tables written into the inactive bank, which becomes the active one (R44). -/
def Quantizer.load (q : Quantizer) (intra predicted : WeightTable) : Quantizer :=
  match q.active with
  | .zero => { q with bank1 := { intra := intra, predicted := predicted }, active := .one }
  | .one => { q with bank0 := { intra := intra, predicted := predicted }, active := .zero }

/-- WEIGHTS_LOAD (R44). -/
def loadWeights (intra predicted : WeightTable) (s : State) : State × Reply :=
  if 0 < s.quant.users s.quant.active.other then (s, { code := .busy, fields := weightsFields s.quant })
  else if !(weightsInRange intra && weightsInRange predicted) then
    (s, { code := .range, fields := weightsFields s.quant })
  else
    let s' := { s with quant := s.quant.load intra predicted }
    (s', { code := .ok, fields := weightsFields s'.quant })

/-- WEIGHTS_QUERY (R46). -/
def queryWeights (s : State) : State × Reply :=
  (s, { code := .ok, fields := weightsFields s.quant ++ bankTables s.quant })

/-! ## Multiplex -/

/-- The ranges of F, L and A (R96). -/
def Mux.inRange (m : Mux) : Bool := 64 ≤ m.f && m.f ≤ 1024 && 2 ≤ m.l && m.l ≤ 32 && 1 ≤ m.a && m.a ≤ 16

/-- MUX_SET (R97). -/
def setMux (m : Mux) (s : State) : State × Reply :=
  if 0 < s.participantCount then (s, { code := .busy, fields := muxSetFields s })
  else if !m.inRange then (s, { code := .range, fields := muxSetFields s })
  else
    let s' := { s with inForce := m, adoptionPending := true }
    (s', { code := .ok, fields := muxSetFields s' })

/-- MUX_QUERY (R99). -/
def queryMux (s : State) : State × Reply := (s, { code := .ok, fields := muxQueryFields s })

/-! ## STATUS and RESET -/

/-- STATUS (R175). -/
def reportStatus (s : State) : State × Reply := (s, { code := .ok, fields := statusFields s })

/-- The records in the part, each of which holds a credit (R21). -/
def recordsInPart (s : State) : Nat := s.ingestQueue.length + if s.packer.isSome then 1 else 0

/-- The state RESET leaves (R177 and the rules it names): no services, no records, no open picture; the multiplex, the
banks, the frames, the check record and the ports' framing state go on. -/
def resetPart (s : State) : State :=
  { s with
    startCause := .command
    services := Vector.replicate 16 none
    ingestQueue := []
    credits := Config.creditTotal
    clCredit := s.clCredit + recordsInPart s
    packer := none
    quant := { s.quant with users0 := 0, users1 := 0 }
    dueList := []
    rrPointer := 0
    requests := []
    keyAttn := false
    ctlAttn := s.checks.attention
    frameDue := [] }

/-- RESET (R177): its answer carries the start cause and the frame number (R194). -/
def resetCommand (s : State) : State × Reply :=
  let s' := resetPart s
  (s', { code := .ok, fields := s'.startCause.byte :: be32 s'.frameNumber })

/-! ## Faults and checks -/

/-- FAULTS_READ (R181). -/
def readFaults (nb : Byte) (s : State) : State × Reply :=
  match s.named nb with
  | none => (s, { code := .noService, fields := [nb] })
  | some (_, v) => (s, { code := .ok, fields := faultFields nb v.faults })

/-- FAULTS_ACK (R182): the list is answered, emptied, and CTL_ATTN falls if nothing else holds it. -/
def ackFaults (nb : Byte) (s : State) : State × Reply :=
  match s.named nb with
  | none => (s, { code := .noService, fields := [nb] })
  | some (n, v) =>
    (dropCtlAttn (s.putSvc n (some { v with faults := FaultList.empty })),
      { code := .ok, fields := faultFields nb v.faults })

/-- CHECK_READ (R186). -/
def readCheck (s : State) : State × Reply := (s, { code := .ok, fields := checkFields s.checks })

/-- CHECK_CLEAR (R187). -/
def clearCheck (s : State) : State × Reply :=
  (dropCtlAttn { s with checks := { s.checks with flags := 0, detail := none, attention := false } },
    { code := .ok, fields := checkFields s.checks })

/-- The fields of CHECK_MODE (R194). -/
def modeFields (c : CheckRecord) : List Byte := [byteOf c.mode, flagByte c.attention]

/-- CHECK_MODE (R188). -/
def setCheckMode (mode : Byte) (s : State) : State × Reply :=
  if 3 < mode.toNat then (s, { code := .range, fields := modeFields s.checks })
  else
    let s' := { s with checks := { s.checks with mode := mode.toNat } }
    (s', { code := .ok, fields := modeFields s'.checks })

end Sys2Proof.Machine
end

