-- ==== Sys2Proof/Machine/Coding.lean ====
section
/-! DEFINITION. From coefficient to bits (03_quantization_and_coding.md): steps, levels, the G-code, block codes and
the headers of the picture syntax. -/

namespace Sys2Proof.Machine

/-- The quantization step of a weight under a qs (R47). -/
def stepOf (qs weight : Nat) : Nat := max 1 ((qs * weight + 8) / 16)

/-- The table of a bank for a picture kind (R42). -/
def WeightBank.table (b : WeightBank) : PictureKind → WeightTable
  | .intra => b.intra
  | .predicted => b.predicted

/-- The sixteen steps of a stripe (R47). -/
def stripeSteps (table : WeightTable) (qs : Nat) : List Nat := table.toList.map fun w => stepOf qs w.toNat

/-- The quantized magnitude before saturation (R48). -/
def magnitude (step rnd : Nat) (c : Int) : Nat := (c.natAbs + step * rnd / 8) / step

/-- The level of a coefficient (R48, R49): the magnitude, at most 255, with the coefficient's sign. -/
def levelOf (step rnd : Nat) (c : Int) : Int := c.sign * (min 255 (magnitude step rnd c) : Nat)

/-- Whether a coefficient saturates (R49). -/
def saturates (step rnd : Nat) (c : Int) : Bool := c ≠ 0 && 255 < magnitude step rnd c

/-- The G-code of a number (R50). -/
def gcode (v : Nat) : List Bool :=
  let z := Nat.log2 (v + 1)
  List.replicate z false ++ bitsOf (z + 1) (v + 1)

/-- The length of a G-code (R50). -/
def gLength (v : Nat) : Nat := 2 * Nat.log2 (v + 1) + 1

/-- The entries of a block's nonzero levels in scan order, after `run` zero levels (R51). -/
def levelEntries : Nat → List Int → List Bool
  | _, [] => []
  | run, l :: rest =>
    if l = 0 then levelEntries (run + 1) rest
    else gcode run ++ gcode (l.natAbs - 1) ++ [decide (l < 0)] ++ levelEntries 0 rest

/-- The number of nonzero levels. -/
def nonzeroCount (levels : List Int) : Nat := (levels.filter (· ≠ 0)).length

/-- The code of a block from its levels (R51). -/
def blockCode (levels : List Int) : List Bool :=
  if nonzeroCount levels = 0 then [false]
  else true :: (gcode (nonzeroCount levels - 1) ++ levelEntries 0 levels)

/-- The levels of a block under the steps of its stripe (R48). -/
def quantizeBlock (steps : List Nat) (rnd : Nat) (b : Block) : List Int :=
  List.zipWith (fun step c => levelOf step rnd c.toInt) steps b

/-- Whether a block holds a saturated level (R49). -/
def blockSaturates (steps : List Nat) (rnd : Nat) (b : Block) : Bool :=
  (List.zipWith (fun step c => saturates step rnd c.toInt) steps b).any id

/-- The kind bit of a picture header (R54). -/
def PictureKind.bit : PictureKind → Nat
  | .intra => 0
  | .predicted => 1

/-- The bank bit of a picture header (R54). -/
def Bank.bit : Bank → Nat
  | .zero => 0
  | .one => 1

/-- The 32 bits of a picture header (R54). -/
def pictureHeader (number : Half) (kind : PictureKind) (bank : Bank) (stripes blocksPerStripe : Nat) : List Bool :=
  bitsOf 16 number.toNat ++ bitsOf 1 kind.bit ++ bitsOf 1 bank.bit ++ bitsOf 7 stripes ++ bitsOf 7 blocksPerStripe

/-- The 6 bits of a stripe header (R54). -/
def stripeHeader (qs : Nat) : List Bool := bitsOf 6 qs

/-- The fewest bits a picture can have (R55). -/
def minPictureBits (stripes blocksPerStripe : Nat) : Nat := 32 + 6 * stripes + stripes * blocksPerStripe

/-- The dead-zone numerator of a picture (R48). -/
def OpenPicture.rnd (p : OpenPicture) : Nat :=
  match p.kind with
  | .intra => p.rndIntra
  | .predicted => p.rndPred

/-- The blocks of a picture, S × Bps. -/
def OpenPicture.totalBlocks (p : OpenPicture) : Nat := p.stripes * p.blocksPerStripe

/-- Block `b` begins a stripe after stripe 0 (R29). -/
def OpenPicture.beginsStripe (p : OpenPicture) (b : Nat) : Bool := b ≠ 0 && b % p.blocksPerStripe == 0

end Sys2Proof.Machine
end

