-- ==== Sys2Proof/Machine/Cells.lean ====
section
/-! DEFINITION. The cells of the output channel (12_formats.md, R190, R191) and the Scrambler's keystream
(09_payload_scrambling.md). -/

namespace Sys2Proof.Machine

/-- The kinds of cell on the output (12_formats.md). -/
inductive CellKind where
  | sync
  | null
  | picture
  | gap
  | entitle
  deriving DecidableEq, Repr

/-- The kind field of a header (12_formats.md). -/
def CellKind.number : CellKind → Nat
  | .sync => 0
  | .null => 1
  | .picture => 2
  | .gap => 3
  | .entitle => 4

/-- A cell ready for its check byte: every header field, and the payload bytes. -/
structure OutCell where
  kind : CellKind
  service : Svc
  start : Bool
  scrambled : Bool
  phase : Phase
  continuity : BitVec 4
  validBits : Nat
  payload : BitVec 736
  deriving DecidableEq, Repr

/-- Header bytes 0 to 2 (12_formats.md). -/
def OutCell.header (c : OutCell) : List Byte :=
  [ byteOf (c.kind.number * 32 + c.service.val * 2 + c.start.toNat),
    byteOf (c.scrambled.toNat * 128 + c.phase.byte.toNat * 64 + c.continuity.toNat * 4 + c.validBits / 256 % 4),
    byteOf c.validBits ]

/-- The 96 bytes of a cell (R112, R190). -/
def OutCell.bytes (c : OutCell) : List Byte := c.header ++ [crc8 c.header] ++ payloadBytes c.payload

/-- The NULL cell (R116). -/
def nullCell : OutCell :=
  { kind := .null, service := 0, start := false, scrambled := false, phase := .zero, continuity := 0, validBits := 0,
    payload := 0 }

/-- The 73 payload bytes of a SYNC cell (R115). -/
def syncFields (frame : Word) (m : Mux) (q : Quantizer) : List Byte :=
  be32 frame ++ be16Of m.f ++ [byteOf m.l, byteOf m.a, q.active.byte]
    ++ q.bank0.intra.toList ++ q.bank0.predicted.toList ++ q.bank1.intra.toList ++ q.bank1.predicted.toList

/-- The SYNC cell of a frame (R115). -/
def syncCell (frame : Word) (m : Mux) (q : Quantizer) : OutCell :=
  { kind := .sync, service := 0, start := false, scrambled := false, phase := .zero, continuity := 0, validBits := 584,
    payload := payloadOfBytes (syncFields frame m q) }

/-- An ENTITLE cell (R119). -/
def entitleCell (n : Svc) (ph : Phase) (continuity : BitVec 4) (data : List Byte) : OutCell :=
  { kind := .entitle, service := n, start := false, scrambled := false, phase := ph, continuity := continuity,
    validBits := 8 * data.length, payload := payloadOfBytes data }

/-- A GAP cell completed by the Scheduler: clear, phase 0; the other fields as they were appended (R124, R125). -/
def gapOut (continuity : BitVec 4) (c : PoolCell) : OutCell :=
  { kind := .gap, service := c.service, start := c.start, scrambled := false, phase := .zero, continuity := continuity,
    validBits := c.validBits, payload := c.payload }

/-! ## The keystream (R161, R162) -/

/-- K_hi, the most significant half of a key (R161). -/
def keyHi (key : BitVec 64) : Word := key.extractLsb' 32 32

/-- K_lo, the least significant half of a key (R161). -/
def keyLo (key : BitVec 64) : Word := key.extractLsb' 0 32

/-- The starting value x_0 (R162 step 1). -/
def keystreamStart (key : BitVec 64) (n : Word) (s : Svc) : Word :=
  keyLo key ^^^ n ^^^ (BitVec.ofNat 32 s.val * 0x01010101#32)

/-- The next value of the keystream's state (R162 step 2). -/
def keystreamNext (key : BitVec 64) (x : Word) : Word := x * Config.keystreamMultiplier + keyHi key

/-- The keystream word formed from x_{j+1} (R162 step 3). -/
def keystreamWord (key : BitVec 64) (x : Word) : Word := x.rotateLeft 11 ^^^ keyHi key

/-- `count` keystream words from a state value on (R162). -/
def keystreamFrom (key : BitVec 64) : Nat → Word → List Word
  | 0, _ => []
  | count + 1, x =>
    let x' := keystreamNext key x
    keystreamWord key x' :: keystreamFrom key count x'

/-- The 23 keystream words of a cell (R162). -/
def keystream (key : BitVec 64) (n : Word) (s : Svc) : List Word :=
  keystreamFrom key Config.keystreamWords (keystreamStart key n s)

/-- Keystream words laid over a payload, word 0 over bytes 0 to 3 (R163). -/
def keystreamBits (words : List Word) : BitVec 736 :=
  BitVec.ofNat 736 (words.foldl (fun a w => 2 ^ 32 * a + w.toNat) 0)

/-- A payload scrambled, and by the same function descrambled (R163, R164). -/
def scramblePayload (key : BitVec 64) (n : Word) (s : Svc) (payload : BitVec 736) : BitVec 736 :=
  payload ^^^ keystreamBits (keystream key n s)

/-- A picture cell handed to the Scrambler with its service's entry (R159): clear under CLEAR and WINDOW, scrambled
under the current key in SCRAMBLED, DEFERRED and LATE. None where there is nothing to scramble with, which the manual
says does not occur (R161). -/
def pictureOut (n : Svc) (v : Service) (c : PoolCell) : Option OutCell :=
  let base : OutCell :=
    { kind := .picture, service := c.service, start := c.start, scrambled := false, phase := .zero,
      continuity := v.contPicture, validBits := c.validBits, payload := c.payload }
  match v.keys.prot with
  | some .clear => some base
  | some .window => some { base with phase := v.keys.phase }
  | some .scrambled | some .deferred | some .late =>
    v.keys.current.map fun k =>
      { base with scrambled := true, phase := v.keys.phase, payload := scramblePayload k.key v.cellSeq n c.payload }
  | some .blackout | none => none

end Sys2Proof.Machine
end

