-- ==== Sys2Proof/Machine/Slot.lean ====
section
/-! DEFINITION. The Slot Scheduler's payload slots (07_output_frames_and_slot_scheduling.md): entitlement, granted and
surplus service, the take and its hand-off. -/

namespace Sys2Proof.Machine

/-- The slot index after a pull (R113). -/
def nextSlot (m : Mux) (index : Nat) : Nat := if index + 1 < m.f then index + 1 else 0

/-- A service has a cell available (R121): a participant not in BLACKOUT, with a cell in its ring or, its ring empty,
a pending marker. -/
def Service.available (v : Service) : Bool :=
  v.participant && v.keys.prot.isSome && v.keys.prot != some .blackout && (!v.ringEmpty || v.queue.marker.isSome)

/-- The services in the order a search examines them, from the round-robin pointer on (R122). -/
def searchOrder (pointer : Svc) : List Svc := allServices.map fun i => pointer + i

/-- The granted search (R122): the first service with a cell available and a deficit above 0. -/
def grantedSearch (s : State) : Option Svc :=
  (searchOrder s.rrPointer).find? fun n =>
    match s.svc n with
    | some v => v.available && 0 < v.alloc.deficit
    | none => false

/-- The surplus search (R123): the first service with a cell available. -/
def surplusSearch (s : State) : Option Svc :=
  (searchOrder s.rrPointer).find? fun n =>
    match s.svc n with
    | some v => v.available
    | none => false

/-- The slot whose payload an ENTITLE cell carries: the next slot if it holds a key, else the current one (R119). -/
def KeyCtx.entitleSlot (k : KeyCtx) : Option (Phase × KeySlot) :=
  match k.next with
  | some x => some (k.phase.other, x)
  | none => k.current.map fun x => (k.phase, x)

/-- The slot an ENTITLE cell of service `n` would carry. -/
def State.entitleSlot (s : State) (n : Svc) : Option (Phase × KeySlot) :=
  match s.svc n with
  | some v => v.keys.entitleSlot
  | none => none

/-- An ENTITLE cell sent for a service, its continuity counter advanced and its send counted (R119, R127, R146). -/
def sendEntitle (n : Svc) (ph : Phase) (x : KeySlot) (s : State) : State :=
  match s.svc n with
  | some v =>
    countSend n ph <| (s.deliver (entitleCell n ph v.contEntitle x.payload).bytes).modSvc n fun v =>
      { v with contEntitle := v.contEntitle + 1 }
  | none => s

/-- The first-cell state of a picture after a take of the cell at a number (R79). -/
def FirstCell.taken (f : FirstCell) (index : Nat) : FirstCell :=
  if f = .queued index then .sent index else f

/-- A service after a take of its head cell (R79): the read pointer advances, and the first-cell state of its open
picture, or of the picture whose withdrawal is in flight, becomes sent if the cell was its first. -/
def Service.takeHead (v : Service) : Service :=
  let ingest :=
    match v.ingest.state with
    | .inPicture p => { v.ingest with state := .inPicture { p with firstCell := p.firstCell.taken v.queue.read } }
    | .idle | .discarding => v.ingest
  { v with
    ingest := ingest
    queue :=
      { v.queue with
        read := v.cfg.advance v.queue.read
        withdrawal := v.queue.withdrawal.map fun w => { w with firstCell := w.firstCell.taken v.queue.read } } }

/-- What a slot served from a service changes whichever cell it carries: the deficit if the granted search chose it
(R108), the pointer (R122, R123), the picture-stream continuity counter (R127). -/
def accountSlot (granted : Bool) (n : Svc) (s : State) : State :=
  ({ s with rrPointer := n + 1 } : State).modSvc n fun v =>
    { v with
      contPicture := v.contPicture + 1
      alloc := { v.alloc with deficit := if granted then v.alloc.deficit - 1 else v.alloc.deficit } }

/-- The pending marker of a service sent as a GAP cell (R90, R124). -/
def sendMarker (granted : Bool) (n : Svc) (v : Service) (m : Marker) (s : State) : State :=
  let s1 := (accountSlot granted n s).modQueue n fun q => { q with marker := none }
  drainTest n (s1.deliver (gapOut v.contPicture (m.gapCell n)).bytes)

/-- The cell taken from a ring completed for the output (R125): a GAP cell is clear, a PICTURE cell goes through the
Scrambler. -/
def completeCell (n : Svc) (v : Service) (c : PoolCell) : Option OutCell :=
  match c.kind with
  | .gap => some (gapOut v.contPicture c)
  | .picture => pictureOut n v c

/-- The cell sequence number after a cell has been delivered: one more when the Scrambler scrambled it (R163). -/
def Service.countScrambled (v : Service) (out : OutCell) : Service :=
  { v with cellSeq := if out.scrambled then v.cellSeq + 1 else v.cellSeq }

/-- The head cell of a service's ring taken for a slot (R79, R93, R94, R124 to R126). -/
def takeCell (ecc : EccResult) (granted : Bool) (n : Svc) (v : Service) (s : State) :
    Host.Outcome State Fault Refusal :=
  let s1 := (accountSlot granted n s).modSvc n Service.takeHead
  match ecc with
  | .uncorrectable =>
    .next (drainTest n ((recordCheck .poolUncorrected (some n) (some v.queue.read) s1).deliver nullCell.bytes))
  | .clean | .corrected =>
    match completeCell n v (Pool.read s.pool v.queue.read) with
    | none => .fault .noCurrentKey
    | some out =>
      let s2 := if ecc = .corrected then recordCheck .poolCorrected (some n) (some v.queue.read) s1 else s1
      .next (drainTest n ((s2.modSvc n fun v => v.countScrambled out).deliver out.bytes))

/-- A slot served from a service a search has chosen (R124). -/
def serveSlot (ecc : EccResult) (granted : Bool) (n : Svc) (s : State) : Host.Outcome State Fault Refusal :=
  match s.svc n with
  | some v =>
    if v.ringEmpty then
      match v.queue.marker with
      | some m => .next (sendMarker granted n v m s)
      | none => .next (s.deliver nullCell.bytes)
    else takeCell ecc granted n v s
  | none => .next (s.deliver nullCell.bytes)

/-- Choices 2, 3 and 4 of a payload slot (R117). -/
def fillSlot (ecc : EccResult) (s : State) : Host.Outcome State Fault Refusal :=
  match grantedSearch s with
  | some n => serveSlot ecc true n s
  | none =>
    match surplusSearch s with
    | some n => serveSlot ecc false n s
    | none => .next (s.deliver nullCell.bytes)

/-- A payload slot (R117): the head of the due list is examined first and leaves the list (R119). -/
def payloadSlot (ecc : EccResult) (s : State) : Host.Outcome State Fault Refusal :=
  match s.dueList with
  | n :: rest =>
    let s1 := { s with dueList := rest }
    match s1.entitleSlot n with
    | some (ph, x) => .next (sendEntitle n ph x s1)
    | none => fillSlot ecc s1
  | [] => fillSlot ecc s

/-- The pull of a slot other than slot 0 (R113): NULL in the lead-in, the choice of R117 in a payload slot. -/
def pullSlot (ecc : EccResult) (s : State) : Host.Outcome State Fault Refusal :=
  let s1 := { s with slotIndex := nextSlot s.frameStruct s.slotIndex }
  if s.slotIndex < s.frameStruct.l then .next (s1.deliver nullCell.bytes) else payloadSlot ecc s1

end Sys2Proof.Machine
end

