-- ==== Sys2Proof/Machine/Frame.lean ====
section
/-! DEFINITION. The frame start (R114) and the work the blocks do at it: adoption, SYNC cell, period start, silence
counters, key timers and countdowns, and the expiries they lead to. An expiry is a step of its own in the opcode table:
FRAME_START notes it as outstanding, its own row takes it, and any other command first takes what is still outstanding
(notes/assumptions/6.md). -/

namespace Sys2Proof.Machine

/-! ## Taking an expiry -/

/-- The Packer's close of a service's picture ends with the abandonment of the picture (R37): after a close by the
picture's own tail nothing of the record is left, a head that forced the close is judged by R27 and R28 next. -/
def breakClose (n : Svc) (s : State) : State :=
  if s.closingByTail n then setPhase .passing s
  else if s.closingByHead n then setPhase (if s.withdrawing n then .held false else .opening) s
  else s

/-- The silence timer of a service has expired (R37): its open picture is abandoned, INPUT_LOST is raised, and a
RUNNING service becomes STALLED. -/
def silenceExpiry (n : Svc) (s : State) : State :=
  let s1 :=
    match s.picture n with
    | some _ => breakClose n (abandonPicture n s)
    | none => s
  (raiseFault n .inputLost s1).modSvc n fun v =>
    if v.activity = .running then { v with activity := .stalled } else v

/-- Outstanding work of a frame start taken. -/
def takeWork (w : FrameWork) (s : State) : State :=
  match w with
  | .silence n => silenceExpiry n s
  | .period n => periodExpiry n s
  | .window n => windowExpiry n s
  | .countdown n => countdownExpiry n s
  | .deferral n => deferralExpiry n s
  | .allocate => allocatePeriod s

/-- All outstanding work of a frame start taken, in the order it was found. -/
def settle (s : State) : State := s.frameDue.foldl (fun t w => takeWork w t) { s with frameDue := [] }

/-- Work noted as outstanding. -/
def noteWork (w : FrameWork) (s : State) : State := { s with frameDue := s.frameDue ++ [w] }

/-- One piece of outstanding work taken out of turn, if it is outstanding. -/
def takeOutstanding (w : FrameWork) (s : State) : State :=
  if w ∈ s.frameDue then takeWork w { s with frameDue := s.frameDue.erase w } else s

/-! ## The work of each block -/

/-- The silence counter of a service at a frame start (R35). -/
def silenceTick (n : Svc) (s : State) : State :=
  match s.svc n with
  | some v =>
    if (v.activity = .running ∨ v.activity = .draining) ∧ v.ingest.expired = false then
      if v.cfg.z ≤ v.ingest.silence + 1 then
        noteWork (.silence n) (s.modSvc n fun v =>
          { v with ingest := { v.ingest with silence := v.cfg.z, expired := true } })
      else s.modSvc n fun v => { v with ingest := { v.ingest with silence := v.ingest.silence + 1 } }
    else s
  | none => s

/-- The entitlement countdown of a service at a frame start (R135 step 1, R145). -/
def countdownTick (n : Svc) (s : State) : State :=
  match s.svc n with
  | some v =>
    if v.keys.hasKey then
      let s1 := s.modKeys n fun k => { k with countdown := k.countdown - 1 }
      if v.keys.countdown ≤ 1 then noteWork (.countdown n) s1 else s1
    else s
  | none => s

/-- The period timer of a service stepped at a frame start (R134): its expiry noted, or the lead test made (R148).
DESIGN CHOICE (notes/assumptions/29.md): the request of a lead test, and that of a changeover's reload test, enters the
set within FRAME_START; the urgent request of an expiry enters when the expiry is taken, after all of those, whatever
order of services FRAME_START carries. R147 keeps the set in order of entry, and no rule orders the services. -/
def timerTick (expiry : FrameWork) (n : Svc) (s : State) : State :=
  match s.svc n with
  | some v =>
    let t := v.keys.timer.step v.cfg.p
    let s1 := s.modKeys n fun k => { k with timer := t }
    if t.count = 0 then noteWork expiry s1 else leadTest n s1
  | none => s

/-- A service in DEFERRED at a frame start (R139). -/
def deferredTick (n : Svc) (s : State) : State :=
  match s.svc n with
  | some v =>
    if v.ready then changeover n s
    else
      let s1 := s.modKeys n fun k => { k with deferral := k.deferral + 1 }
      if v.cfg.dmax ≤ v.keys.deferral + 1 then noteWork (.deferral n) s1 else s1
  | none => s

/-- A changeover if the service is ready (R140, R141). -/
def changeoverIfReady (n : Svc) (s : State) : State :=
  match s.svc n with
  | some v => if v.ready then changeover n s else s
  | none => s

/-- The period work of a service by its protection state (R135 step 2). -/
def periodWork (n : Svc) (v : Service) (s : State) : State :=
  match v.keys.prot with
  | some .window => timerTick (.window n) n s
  | some .scrambled => if v.timed then timerTick (.period n) n s else changeoverIfReady n s
  | some .deferred => deferredTick n s
  | some .late => changeoverIfReady n s
  | some .clear | some .blackout | none => s

/-- The Key Unit's work for a service at a frame start (R135): participants whose protection is SCRAMBLED only. -/
def keyTick (n : Svc) (s : State) : State :=
  match s.svc n with
  | some v =>
    if v.participant ∧ v.cfg.protection = .scrambled then periodWork n v (countdownTick n s) else s
  | none => s

/-! ## The frame start -/

/-- A list of services without the later occurrences of one. -/
def onceEach : List Svc → List Svc
  | [] => []
  | n :: rest => n :: (onceEach rest).filter (· != n)

/-- The services a frame start treats, in order: those an order names, each once, and then the others ascending. -/
def workOrder (order : List Svc) : List Svc :=
  onceEach order ++ allServices.filter fun n => !order.contains n

/-- The number of the frame that begins (R114 step 1): the first frame after power or line keeps the number 0. -/
def newFrameNumber (s : State) : Word := if s.frameBegun then s.frameNumber + 1 else s.frameNumber

/-- The frame structure of the frame that begins (R98, R114 step 2). -/
def newFrameStruct (s : State) : Mux := if s.adoptionPending then s.inForce else s.frameStruct

/-- The frame begun: number, adoption, SYNC cell, slot index (R114). -/
def beginFrame (s : State) : State :=
  { s with
    frameNumber := newFrameNumber s
    frameBegun := true
    frameStruct := newFrameStruct s
    adoptionPending := false
    slotIndex := nextSlot (newFrameStruct s) 0
    outCell := (syncCell (newFrameNumber s) (newFrameStruct s) s.quant).bytes }

/-- Whether the frame in progress begins an allocation period (R100). -/
def isPeriodStart (s : State) : Bool := s.frameNumber.toNat % s.frameStruct.a == 0

/-- The silence counters of all services. -/
def silenceTicks (order : List Svc) (s : State) : State := order.foldl (fun t n => silenceTick n t) s

/-- The Key Unit's work for all services. -/
def keyTicks (order : List Svc) (s : State) : State := order.foldl (fun t n => keyTick n t) s

/-- The period start of a frame, where it begins one (R100): the division is made at once, or left outstanding behind
the silence expiries that go before it (R103). -/
def periodStart (s : State) : State :=
  if isPeriodStart s then if s.frameDue = [] then allocatePeriod s else noteWork .allocate s else s

/-- The pull of slot 0 (R114). The silence expiries of the services in `early` go before a period start, those of the
other services after it: R103 gives the outcome of either order, service by service. -/
def startFrame (early order : List Svc) (s : State) : State :=
  let services := workOrder order
  let s1 := periodStart (silenceTicks (services.filter fun n => early.contains n) (beginFrame s))
  keyTicks services (silenceTicks (services.filter fun n => !early.contains n) s1)

end Sys2Proof.Machine
end

