-- ==== Sys2Proof/Machine/KeyPort.lean ====
section
/-! DEFINITION. The key port commands (08_key_periods_and_changeover.md, R150 to R156). -/

namespace Sys2Proof.Machine

/-- What an accepted KEY_LOAD does beyond storing the key (R151): the entitlement countdown of a participant is set to
1 by a load into its next slot, and a load into the empty current slot ends BLACKOUT. DESIGN CHOICE
(notes/assumptions/25.md): the exit makes the drain test, so that a DRAINING service which BLACKOUT alone kept from
DEFINED completes its drain (R5) although no take follows. -/
def loadedEffect (n : Svc) (v : Service) (ph : Phase) (s : State) : State :=
  if v.participant then
    if ph ≠ v.keys.phase then s.modKeys n fun k => { k with countdown := 1 }
    else if v.keys.prot = some .blackout then drainTest n (exitBlackout n s)
    else s
  else s

/-- An accepted KEY_LOAD (R151): key and payload stored with sent count 0, the generation raised, the request for the
phase removed. -/
def storeKey (n : Svc) (v : Service) (ph : Phase) (key : BitVec 64) (payload : List Byte) (s : State) : State :=
  loadedEffect n v ph <| dropPhaseRequest n ph <| s.modKeys n fun k =>
    { k.setSlot ph (some { key := key, payload := payload, sent := 0 }) with generation := k.generation + 1 }

/-- KEY_LOAD (R150, R151). -/
def loadKey (nb pb : Byte) (expected : Half) (key : BitVec 64) (payload : List Byte) (s : State) : State × Reply :=
  match s.named nb with
  | none => (s, keyReply .noService nb s)
  | some (n, v) =>
    if v.cfg.protection = .clear then (s, keyReply .notScrambled nb s)
    else if expected ≠ v.keys.generation then (s, keyReply .stale nb s)
    else if 1 < pb.toNat ∨ payload.length < 1 ∨ 92 < payload.length then (s, keyReply .format nb s)
    else if phaseOf pb = v.keys.phase ∧ v.keys.current.isSome = true then (s, keyReply .slotInUse nb s)
    else
      let s' := storeKey n v (phaseOf pb) key payload s
      (s', keyReply .ok nb s')

/-- What an accepted KEY_CLEAR does beyond emptying the slot (R143, R148, R153): the loss of the current key puts a
participant in BLACKOUT, and a service already there repeats its urgent request. -/
def clearedEffect (n : Svc) (v : Service) (ph : Phase) (s : State) : State :=
  match v.keys.prot with
  | some .blackout => requestCurrent n s
  | some .window | some .scrambled | some .deferred | some .late =>
    if ph = v.keys.phase ∧ v.keys.current.isSome = true then enterBlackout n s else s
  | some .clear | none => s

/-- An accepted KEY_CLEAR (R153). -/
def emptyKey (n : Svc) (v : Service) (ph : Phase) (s : State) : State :=
  clearedEffect n v ph <| s.modKeys n fun k => { k.setSlot ph none with generation := k.generation + 1 }

/-- KEY_CLEAR (R150, R153). -/
def clearKey (nb pb : Byte) (expected : Half) (s : State) : State × Reply :=
  match s.named nb with
  | none => (s, keyReply .noService nb s)
  | some (n, v) =>
    if v.cfg.protection = .clear then (s, keyReply .notScrambled nb s)
    else if expected ≠ v.keys.generation then (s, keyReply .stale nb s)
    else if 1 < pb.toNat then (s, keyReply .format nb s)
    else
      let s' := emptyKey n v (phaseOf pb) s
      (s', keyReply .ok nb s')

/-- KEY_PURGE for one service (R154): both slots emptied, the generation raised; a SCRAMBLED participant enters
BLACKOUT, or repeats its urgent request if it is there. -/
def purgeService (n : Svc) (s : State) : State :=
  match s.svc n with
  | some v =>
    let s1 := s.modKeys n fun k => { k with slot0 := none, slot1 := none, generation := k.generation + 1 }
    if v.participant ∧ v.cfg.protection = .scrambled then
      if v.keys.prot = some .blackout then requestCurrent n s1 else enterBlackout n s1
    else s1
  | none => s

/-- The SCRAMBLED participants, which a purge places or keeps in BLACKOUT (R154). -/
def scrambledParticipants (s : State) : Nat :=
  (s.participants.filter fun x => x.2.cfg.protection == .scrambled).length

/-- KEY_PURGE (R154). -/
def purgeKeys (s : State) : State × Reply :=
  (allServices.foldl (fun t n => purgeService n t) s,
    { code := .ok, fields := [byteOf (scrambledParticipants s)] })

/-- KEY_STATUS (R155). DESIGN CHOICE (notes/assumptions/30.md): a refusal with FORMAT of a service that is not UNUSED
carries the service alone, as the refusal form of R194 has it, and not the generation and current phase that R132 gives
every key-port response that names a service. -/
def keyStatus (nb selector : Byte) (s : State) : State × Reply :=
  match s.named nb with
  | none => (s, { code := .noService, fields := [nb] })
  | some (_, v) =>
    if 1 < selector.toNat then (s, { code := .format, fields := [nb] })
    else (s, { code := .ok, fields := keyStatusFields nb selector v })

/-- REQUESTS_READ (R156). -/
def readRequests (s : State) : State × Reply := (s, { code := .ok, fields := requestsFields s })

end Sys2Proof.Machine
end

