-- ==== Sys2Proof/Machine/Services.lean ====
section
/-! DEFINITION. The controller service commands (01_services.md, R7 to R19): each takes the state to the state it
leaves and its answer. -/

namespace Sys2Proof.Machine

/-! ## Regions and ranges (R2, R8) -/

/-- The first stage of R2: the base is aligned to the region's size and the region lies within the pool. -/
def SvcConfig.regionFits (c : SvcConfig) : Bool := c.base % c.regionSize == 0 && c.base + c.regionSize - 1 ≤ 4095

/-- Two regions share a cell (R2). -/
def SvcConfig.meets (c d : SvcConfig) : Bool := c.base < d.base + d.regionSize && d.base < c.base + c.regionSize

/-- The second stage of R2: a cell of the region belongs to another entry that is not UNUSED. -/
def overlapsOther (s : State) (n : Svc) (c : SvcConfig) : Bool :=
  allServices.any fun m =>
    m != n &&
      match s.svc m with
      | some v => c.meets v.cfg
      | none => false

/-- The range tests of SVC_DEFINE (R8, with the first stage of R2). -/
def defineInRange (s : State) (b : CfgBlock) : Bool :=
  let c := SvcConfig.ofBlock b
  cfgFields.all (cfgFieldInRange b) && c.qmin ≤ c.qmax && c.floor ≤ s.inForce.payloadSlots && c.regionFits

/-- Whether a mask selects the region base or K (R2). -/
def movesRegion (mask : BitVec 24) : Bool := selects mask 0 || selects mask 1

/-- The range tests of SVC_MODIFY (R10 test 4) for the configuration that would result. -/
def modifyInRange (s : State) (mask : BitVec 24) (b : CfgBlock) (c : SvcConfig) : Bool :=
  cfgFields.all (fun i => !selects mask i || cfgFieldInRange b i) && c.qmin ≤ c.qmax
    && c.floor ≤ s.inForce.payloadSlots && (!movesRegion mask || c.regionFits)

/-! ## SVC_DEFINE (R8, R9) -/

/-- The key context SVC_DEFINE creates (R9, R131). -/
def KeyCtx.created (c : SvcConfig) : KeyCtx :=
  { slot0 := none
    slot1 := none
    phase := c.startPhase
    generation := 0
    prot := none
    windowSpent := false
    timer := { prescale := c.p, count := 0 }
    requestMark := false
    deferral := 0
    countdown := c.e
    stamp := none }

/-- The entry SVC_DEFINE creates (R9, R73, R180); values between definition and start that no rule states are those of
notes/assumptions/11.md. -/
def Service.created (c : SvcConfig) : Service :=
  { cfg := c
    activity := .defined
    revision := 0
    queue := { read := c.base, write := c.base, marker := none, withdrawal := none }
    ingest := { state := .idle, silence := 0, expired := false }
    stats := none
    alloc :=
      { complexity := Config.startComplexity, latchedFloor := 0, latchedWeight := 1, grant := 0, deficit := 0,
        fallback := false }
    contPicture := 0
    contEntitle := 0
    keys := KeyCtx.created c
    cellSeq := 0
    faults := FaultList.empty }

/-- SVC_DEFINE (R7, R8, R9). -/
def defineService (nb : Byte) (b : CfgBlock) (s : State) : State × Reply :=
  match svcIndex nb with
  | none => (s, svcReply .noService nb s)
  | some n =>
    if (s.svc n).isSome then (s, svcReply .busy nb s)
    else if !defineInRange s b then (s, svcReply .range nb s)
    else if overlapsOther s n (SvcConfig.ofBlock b) then (s, svcReply .overlap nb s)
    else
      let s' := s.putSvc n (some (Service.created (SvcConfig.ofBlock b)))
      (s', svcReply .ok nb s')

/-! ## SVC_MODIFY (R10 to R12) -/

/-- A service after an accepted SVC_MODIFY (R11, R12): the selected fields stored, the revision raised; a moved region
moves both pointers, and a new start phase becomes the current phase, raising the generation if it changes it. -/
def Service.modified (v : Service) (mask : BitVec 24) (b : CfgBlock) : Service :=
  let cfg := v.cfg.overlay mask b
  let queue := if movesRegion mask then { v.queue with read := cfg.base, write := cfg.base } else v.queue
  let keys :=
    if selects mask 18 then
      { v.keys with
        phase := cfg.startPhase
        generation := if cfg.startPhase = v.keys.phase then v.keys.generation else v.keys.generation + 1 }
    else v.keys
  { v with cfg := cfg, revision := v.revision + 1, queue := queue, keys := keys }

/-- SVC_MODIFY (R10). -/
def modifyService (nb : Byte) (expected : Half) (mask : BitVec 24) (b : CfgBlock) (s : State) : State × Reply :=
  match s.named nb with
  | none => (s, svcReply .noService nb s)
  | some (n, v) =>
    let cfg := v.cfg.overlay mask b
    if expected ≠ v.revision then (s, svcReply .stale nb s)
    else if v.participant && nonLiveFields.any (selects mask) then (s, svcReply .busy nb s)
    else if !modifyInRange s mask b cfg then (s, svcReply .range nb s)
    else if movesRegion mask && overlapsOther s n cfg then (s, svcReply .overlap nb s)
    else if v.participant && (selects mask 3 || selects mask 14) && !capacityOk s n cfg then
      (s, svcReply .capacity nb s)
    else
      let s' := s.putSvc n (some (v.modified mask b))
      (s', svcReply .ok nb s')

/-! ## SVC_START (R13 to R15) -/

/-- The runtime state an accepted SVC_START sets, but for the protection state (R14, R25). -/
def Service.started (v : Service) : Service :=
  { v with
    activity := .running
    queue := { read := v.cfg.base, write := v.cfg.base, marker := none, withdrawal := none }
    ingest := { state := .idle, silence := 0, expired := false }
    stats := none
    alloc :=
      { v.alloc with complexity := Config.startComplexity, grant := 0, deficit := 0, fallback := true }
    cellSeq := 0
    keys := { v.keys with deferral := 0 } }

/-- The protection state an accepted SVC_START sets (R15). DESIGN CHOICE (notes/assumptions/28.md): R15 clears the window
spent mark at the start of a CLEAR_WINDOW service and does not say whether a service is meant whose protection is
CLEAR; the model clears it at a start into WINDOW alone and leaves it as it stands at a CLEAR start, where KEY_STATUS
then still reports REPEAT for a mark that an earlier SCRAMBLED run set. -/
def startProtection (n : Svc) (v : Service) (s : State) : State :=
  match v.cfg.protection with
  | .clear => s.modKeys n fun k => { k with prot := some .clear }
  | .scrambled =>
    match v.cfg.periodMode with
    | .clearWindow => loadTimer n (s.modKeys n fun k => { k with prot := some .window, windowSpent := false })
    | .repeating =>
      if v.keys.current.isSome then loadTimer n (s.modKeys n fun k => { k with prot := some .scrambled })
      else enterBlackout n s
    | .hold =>
      if v.keys.current.isSome then s.modKeys n fun k => { k with prot := some .scrambled } else enterBlackout n s

/-- The entitlement countdown of a SCRAMBLED service that starts with a key is set to 1 (R15, R145). -/
def startCountdown (n : Svc) (v : Service) (s : State) : State :=
  if v.cfg.protection = .scrambled ∧ v.keys.hasKey = true then s.modKeys n fun k => { k with countdown := 1 } else s

/-- SVC_START (R14). -/
def startService (nb : Byte) (s : State) : State × Reply :=
  match s.named nb with
  | none => (s, svcReply .noService nb s)
  | some (n, v) =>
    if v.participant then (s, svcReply .busy nb s)
    else if !capacityOk s n v.cfg then (s, svcReply .capacity nb s)
    else
      let s' := startCountdown n v (startProtection n v (s.putSvc n (some v.started)))
      (s', svcReply .ok nb s')

/-! ## SVC_STOP (R16, R17) -/

/-- A RUNNING or STALLED service stopped without flush (R16): DEFINED at once when it has nothing to drain. -/
def stopToDrain (n : Svc) (v : Service) (s : State) : State :=
  if v.drained then enterDefined n s else s.modSvc n fun v => { v with activity := .draining }

/-- The Packer discards the rest of the record it is working on if it belongs to a flushed service, and returns its
credit (R17). -/
def dropRecordOf (n : Svc) (s : State) : State :=
  match s.packer with
  | some w => if w.record.service = n then s.finishRecord else s
  | none => s

/-- The bank user of an open picture that is dropped (R43). -/
def dropPictureUser (v : Service) (s : State) : State :=
  match v.picture with
  | some p => { s with quant := s.quant.dropUser p.bank }
  | none => s

/-- A participant stopped with flush (R17, R92). -/
def flushService (n : Svc) (v : Service) (s : State) : State :=
  enterDefined n <| dropRecordOf n <| (dropPictureUser v s).modQueue n fun q =>
    { q with read := q.write, marker := none, withdrawal := none }

/-- SVC_STOP with the flush byte carried (R7, R16, R17, R193). -/
def stopService (nb flush : Byte) (s : State) : State × Reply :=
  match s.named nb with
  | none => (s, svcReply .noService nb s)
  | some (n, v) =>
    if v.activity = .defined ∨ (v.activity = .draining ∧ flush = 0) then (s, svcReply .busy nb s)
    else if flush = 0 then
      let s' := stopToDrain n v s
      (s', svcReply .ok nb s')
    else if flush = 1 then
      let s' := flushService n v s
      (s', svcReply .ok nb s')
    else (s, svcReply .range nb s)

/-! ## SVC_RELEASE and SVC_QUERY (R18, R19) -/

/-- A DEFINED service released: the whole entry is emptied (R18, R149, R176). -/
def releaseEntry (n : Svc) (s : State) : State := dropCtlAttn (dropServiceRequests n (s.putSvc n none))

/-- SVC_RELEASE (R18). -/
def releaseService (nb : Byte) (s : State) : State × Reply :=
  match s.named nb with
  | none => (s, svcReply .noService nb s)
  | some (n, v) =>
    if v.participant then (s, svcReply .busy nb s)
    else
      let s' := releaseEntry n s
      (s', svcReply .ok nb s')

/-- SVC_QUERY (R19). -/
def queryService (nb : Byte) (s : State) : State × Reply :=
  match s.named nb with
  | none => (s, svcReply .noService nb s)
  | some (_, v) => (s, { code := .ok, fields := queryFields nb v })

end Sys2Proof.Machine
end

