-- ==== Sys2Proof/Machine/Ports.lean ====
section
/-! DEFINITION. The message ports (10_management_ports.md): taking a request, and the end of an SPI frame. -/

namespace Sys2Proof.Machine

/-- A request carried out against the state as it stands (R169). -/
def runRequest (r : Request) (s : State) : State × Reply :=
  match r with
  | .svcDefine n cfg => defineService n cfg s
  | .svcModify n expected mask cfg => modifyService n expected mask cfg s
  | .svcStart n => startService n s
  | .svcStop n flush => stopService n flush s
  | .svcRelease n => releaseService n s
  | .svcQuery n => queryService n s
  | .weightsLoad intra predicted => loadWeights intra predicted s
  | .weightsQuery => queryWeights s
  | .muxSet f l a => setMux { f := f.toNat, l := l.toNat, a := a.toNat } s
  | .muxQuery => queryMux s
  | .status => reportStatus s
  | .reset => resetCommand s
  | .faultsRead n => readFaults n s
  | .faultsAck n => ackFaults n s
  | .checkRead => readCheck s
  | .checkClear => clearCheck s
  | .checkMode m => setCheckMode m s
  | .keyLoad n ph expected key payload => loadKey n ph expected key payload s
  | .keyClear n ph expected => clearKey n ph expected s
  | .keyPurge => purgeKeys s
  | .keyStatus n selector => keyStatus n selector s
  | .requestsRead => readRequests s

/-- The code byte of a response: the request's, its most significant bit set (R167). -/
def responseCode (code : Byte) : Byte := code ||| 0x80#8

/-- A response message: code, response code, take number, the command's fields (R171). -/
def response (code : Byte) (take : Byte) (reply : Reply) : List Byte :=
  message (responseCode code) (reply.code.byte :: take :: reply.fields)

/-- The take number of a port raised (R169). -/
def countTake (p : PortId) (s : State) : State := s.setPort p { s.port p with take := (s.port p).take + 1 }

/-- A response placed as a port's held response, carrying the port's take number (R169). -/
def holdResponse (p : PortId) (code : Byte) (reply : Reply) (s : State) : State :=
  s.setPort p { s.port p with held := some (response code (s.port p).take reply) }

/-- A request taken by a port (R169): the take number raised, the command carried out, its response held. -/
def takeRequest (p : PortId) (r : Request) (s : State) : State :=
  let done := runRequest r (countTake p s)
  holdResponse p r.code done.2 done.1

/-- A request taken and refused by the framing tests (R168): no command fields, and nothing acted on. -/
def refuseRequest (p : PortId) (code : Byte) (resp : RespCode) (s : State) : State :=
  holdResponse p code { code := resp, fields := [] } (countTake p s)

/-- The bytes a port shifts out during a frame of a length: the held response, then 0xFF (R166). -/
def shiftedOut (held : Option (List Byte)) (n : Nat) : List Byte :=
  (held.getD [] ++ List.replicate n 0xFF#8).take n

/-- The held response after a frame: released if the frame sent every byte of it (R166, R170). -/
def heldAfterFrame (held : Option (List Byte)) (n : Nat) : Option (List Byte) :=
  match held with
  | some r => if r.length ≤ n then none else some r
  | none => none

/-- The frame of a port closed: a completed read releases the response, and no byte is left received (R166, R170). -/
def closeFrame (p : PortId) (rx : List Byte) (s : State) : State :=
  let v := s.port p
  s.setPort p { held := heldAfterFrame v.held rx.length, take := v.take, rx := [],
                dataOut := shiftedOut v.held rx.length }

/-- The end of a frame on a port (R166 to R170): the read is completed first, then the bytes received are examined. -/
def endFrame (p : PortId) (received : List Byte) (s : State) : State :=
  let rx := (s.port p).rx ++ received
  let s1 := closeFrame p rx s
  if rx.head? = none ∨ rx.head? = some 0xFF#8 then s1
  else if (s1.port p).held.isSome then recordCheck .portFormat none none s1
  else
    match frameRequest p rx with
    | .format code => refuseRequest p code .format (recordCheck .portFormat none none s1)
    | .unknown code => refuseRequest p code .unknown s1
    | .request r => takeRequest p r s1

end Sys2Proof.Machine
end

