-- ==== Sys2Proof/Machine/Power.lean ====
section
/-! DEFINITION. Power and the reset line (R20, R129, R174), and the gate every other command passes: nothing but the
supply and the line itself reaches the part while RST_N is asserted (notes/assumptions/4.md). -/

namespace Sys2Proof.Machine

/-- A command taken while the part is out of reset: what the last frame start left outstanding is taken first
(notes/assumptions/6.md). -/
def operate (f : State → State) (s : State) : State := if s.rstAsserted then s else f (settle s)

/-- The part after power-on or the reset line, the waiting commands kept (R20, R174). -/
def coldStart (cause : StartCause) (lineHeld : Bool) (s : State) : State :=
  { State.reset with startCause := cause, rstAsserted := lineHeld, pending := s.pending }

/-- POWER_ON (R174): a line held asserted while power comes up gives POWER. -/
def execPowerOn (lineHeld : Bool) (s : State) : Host.Outcome State Fault Refusal :=
  .next (coldStart .power lineHeld s)

/-- RESET_LINE (R20, R174): an assertion of RST_N; a line that is asserted already is not asserted again. -/
def execResetLine (s : State) : Host.Outcome State Fault Refusal :=
  .next (if s.rstAsserted then s else coldStart .line true s)

/-- RESET_LINE_RELEASE (R129). -/
def execResetLineRelease (s : State) : Host.Outcome State Fault Refusal := .next { s with rstAsserted := false }

end Sys2Proof.Machine
end

