-- ==== Sys2Proof/Machine/ControlCommands.lean ====
section
/-! DEFINITION. PORT_FRAME_END and the control port's commands (R172), each the port's take of its request (R169;
notes/assumptions/2.md). -/

namespace Sys2Proof.Machine

/-- A control-port request taken. -/
def takeControl (r : Request) (s : State) : Host.Outcome State Fault Refusal :=
  .next (operate (takeRequest .control r) s)

/-- PORT_FRAME_END (R166 to R170). -/
def execPortFrameEnd (port : PortId) (received : List Byte) (s : State) : Host.Outcome State Fault Refusal :=
  .next (operate (endFrame port received) s)

/-- SVC_DEFINE (R8, R9). -/
def execSvcDefine (service : Byte) (cfg : CfgBlock) (s : State) : Host.Outcome State Fault Refusal :=
  takeControl (.svcDefine service cfg) s

/-- SVC_MODIFY (R10 to R12). -/
def execSvcModify (service : Byte) (expected : Half) (mask : BitVec 24) (cfg : CfgBlock) (s : State) :
    Host.Outcome State Fault Refusal :=
  takeControl (.svcModify service expected mask cfg) s

/-- SVC_START (R13 to R15). -/
def execSvcStart (service : Byte) (s : State) : Host.Outcome State Fault Refusal := takeControl (.svcStart service) s

/-- SVC_STOP without flush (R16), flush byte 0 (R193). -/
def execSvcStop (service : Byte) (s : State) : Host.Outcome State Fault Refusal := takeControl (.svcStop service 0) s

/-- SVC_STOP with flush (R17), flush byte 1 (R193). -/
def execSvcStopFlush (service : Byte) (s : State) : Host.Outcome State Fault Refusal :=
  takeControl (.svcStop service 1) s

/-- SVC_RELEASE (R18). -/
def execSvcRelease (service : Byte) (s : State) : Host.Outcome State Fault Refusal :=
  takeControl (.svcRelease service) s

/-- SVC_QUERY (R19). -/
def execSvcQuery (service : Byte) (s : State) : Host.Outcome State Fault Refusal := takeControl (.svcQuery service) s

/-- WEIGHTS_LOAD (R44). -/
def execWeightsLoad (intra predicted : WeightTable) (s : State) : Host.Outcome State Fault Refusal :=
  takeControl (.weightsLoad intra predicted) s

/-- WEIGHTS_QUERY (R46). -/
def execWeightsQuery (s : State) : Host.Outcome State Fault Refusal := takeControl .weightsQuery s

/-- MUX_SET (R97). -/
def execMuxSet (f : Half) (l a : Byte) (s : State) : Host.Outcome State Fault Refusal := takeControl (.muxSet f l a) s

/-- MUX_QUERY (R99). -/
def execMuxQuery (s : State) : Host.Outcome State Fault Refusal := takeControl .muxQuery s

/-- STATUS (R175). -/
def execStatus (s : State) : Host.Outcome State Fault Refusal := takeControl .status s

/-- RESET (R177). -/
def execReset (s : State) : Host.Outcome State Fault Refusal := takeControl .reset s

/-- FAULTS_READ (R181). -/
def execFaultsRead (service : Byte) (s : State) : Host.Outcome State Fault Refusal :=
  takeControl (.faultsRead service) s

/-- FAULTS_ACK (R182). -/
def execFaultsAck (service : Byte) (s : State) : Host.Outcome State Fault Refusal := takeControl (.faultsAck service) s

/-- CHECK_READ (R186). -/
def execCheckRead (s : State) : Host.Outcome State Fault Refusal := takeControl .checkRead s

/-- CHECK_CLEAR (R187). -/
def execCheckClear (s : State) : Host.Outcome State Fault Refusal := takeControl .checkClear s

/-- CHECK_MODE (R188). -/
def execCheckMode (mode : Byte) (s : State) : Host.Outcome State Fault Refusal := takeControl (.checkMode mode) s

end Sys2Proof.Machine
end

