-- ==== Sys2Proof/Machine/KeyCommands.lean ====
section
/-! DEFINITION. The key port's commands (R172), each the port's take of its request (R169; notes/assumptions/2.md). -/

namespace Sys2Proof.Machine

/-- A key-port request taken. -/
def takeKey (r : Request) (s : State) : Host.Outcome State Fault Refusal := .next (operate (takeRequest .key r) s)

/-- KEY_LOAD (R150, R151). -/
def execKeyLoad (service phase : Byte) (expected : Half) (key : BitVec 64) (payload : List Byte) (s : State) :
    Host.Outcome State Fault Refusal :=
  takeKey (.keyLoad service phase expected key payload) s

/-- KEY_CLEAR (R150, R153). -/
def execKeyClear (service phase : Byte) (expected : Half) (s : State) : Host.Outcome State Fault Refusal :=
  takeKey (.keyClear service phase expected) s

/-- KEY_PURGE (R154). -/
def execKeyPurge (s : State) : Host.Outcome State Fault Refusal := takeKey .keyPurge s

/-- KEY_STATUS (R155). -/
def execKeyStatus (service selector : Byte) (s : State) : Host.Outcome State Fault Refusal :=
  takeKey (.keyStatus service selector) s

/-- REQUESTS_READ (R156). -/
def execRequestsRead (s : State) : Host.Outcome State Fault Refusal := takeKey .requestsRead s

end Sys2Proof.Machine
end

