-- ==== Sys2Proof/Machine/OutputEvents.lean ====
section
/-! DEFINITION. The modulator's pulls (R112 to R117) and the expiries of a frame start (R37, R136, R139, R142,
R145). -/

namespace Sys2Proof.Machine

/-- FRAME_START (R114): the pull of slot 0, so that it happens when the slot index names that slot
(notes/assumptions/3.md). -/
def execFrameStart (early order : List Svc) (s : State) : Host.Outcome State Fault Refusal :=
  .next (operate (fun t => if t.slotIndex = 0 then startFrame early order t else t) s)

/-- SLOT_PULL (R117): the pull of a slot other than slot 0. -/
def execSlotPull (ecc : EccResult) (s : State) : Host.Outcome State Fault Refusal :=
  if s.rstAsserted then .next s
  else if (settle s).slotIndex = 0 then .next (settle s)
  else pullSlot ecc (settle s)

/-- An outstanding expiry taken by its own event (notes/assumptions/3.md, 6.md). -/
def expire (w : FrameWork) (s : State) : State := if s.rstAsserted then s else takeOutstanding w s

/-- SILENCE_EXPIRY (R37). -/
def execSilenceExpiry (service : Svc) (s : State) : Host.Outcome State Fault Refusal := .next (expire (.silence service) s)

/-- PERIOD_EXPIRY (R136). -/
def execPeriodExpiry (service : Svc) (s : State) : Host.Outcome State Fault Refusal := .next (expire (.period service) s)

/-- WINDOW_END (R142). -/
def execWindowEnd (service : Svc) (s : State) : Host.Outcome State Fault Refusal := .next (expire (.window service) s)

/-- ENTITLEMENT_COUNTDOWN_EXPIRY (R145). -/
def execEntitlementCountdownExpiry (service : Svc) (s : State) : Host.Outcome State Fault Refusal :=
  .next (expire (.countdown service) s)

/-- DEFERRAL_LIMIT (R139). -/
def execDeferralLimit (service : Svc) (s : State) : Host.Outcome State Fault Refusal :=
  .next (expire (.deferral service) s)

end Sys2Proof.Machine
end

