-- ==== Sys2Proof/Machine/Rate.lean ====
section
/-! DEFINITION. The Rate Controller (04_rate_control.md): the picture target, the initial qs and the stripe
decisions. -/

namespace Sys2Proof.Machine

/-- A value clamped to a range (00_scope.md, Conventions). -/
def clampNat (lo hi x : Nat) : Nat := if x < lo then lo else if hi < x then hi else x

/-- The base of a target from a grant (R61). -/
def targetBase (grant : Nat) : PictureKind → Nat
  | .intra => grant * 736 * 2
  | .predicted => grant * 736

/-- The raw target, a signed value (R61). -/
def rawTarget (grant : Nat) (kind : PictureKind) (queued : Nat) : Int :=
  (targetBase grant kind : Int) - ((queued : Int) - (grant : Int)) * 368

/-- The picture target B' (R62). -/
def pictureTarget (grant : Nat) (kind : PictureKind) (queued stripes blocksPerStripe : Nat) : Nat :=
  let base := targetBase grant kind
  let bmin := minPictureBits stripes blocksPerStripe
  let lo := max (base / 4) bmin
  let hi := max (2 * base) bmin
  let raw := rawTarget grant kind queued
  if raw < (lo : Int) then lo else if (hi : Int) < raw then hi else raw.toNat

/-- The grant a picture's target is formed from (R60). -/
def pictureGrant (s : State) (v : Service) : Nat :=
  if v.alloc.fallback then v.cfg.floor * s.inForce.a else v.alloc.grant

/-- The initial qs (R63). -/
def initialQs (stats : Option Stats) (qinit qmin qmax target : Nat) : Nat :=
  match stats with
  | some st => clampNat qmin qmax ((st.qavgPrev * st.bitsPrev + target / 2) / target)
  | none => clampNat qmin qmax qinit

/-- The share of the target due by the start of stripe `j` (R67). -/
def OpenPicture.shareDue (p : OpenPicture) (j : Nat) : Nat := p.target * j / p.stripes

/-- The qs of the bands before clamping (R67). -/
def bandQs (spent due qs : Nat) : Nat :=
  if due * 12 ≤ spent * 8 then qs + 4
  else if due * 9 < spent * 8 then qs + 2
  else if spent * 8 < due * 7 then qs - 1
  else qs

/-- The decision for stripe `j` under a ring's free count: the stripe's qs and the emergency mark (R66, R67). -/
def stripeDecision (p : OpenPicture) (free j : Nat) : Nat × Bool :=
  if p.emergency then (p.qmax, true)
  else if free < 4 then (p.qmax, true)
  else (clampNat p.qmin p.qmax (bandQs p.bitsSpent (p.shareDue j) p.qs), false)

/-- The statistics a normal close keeps (R71). -/
def OpenPicture.closeStats (p : OpenPicture) : Stats := { bitsPrev := p.bitsSpent, qavgPrev := p.qsSum / p.stripes }

end Sys2Proof.Machine
end

