-- ==== Sys2Proof/Machine/Packer.lean ====
section
/-! DEFINITION. The Packer (02_picture_ingest.md, 05_cell_queues_and_picture_abandonment.md): building cells, coding
blocks, opening and closing pictures, and its work on a record, stage by stage. The take of a record judges it (R39); a
stage is then the open of a picture, one block of a BLOCKS record, one missing block of a close, or the end of a close
(R24, R28, R32; notes/assumptions/5.md). -/

namespace Sys2Proof.Machine

/-! ## Building cells (R81 to R83) -/

/-- A picture cell appended with its valid bits (R78, R81); a start-flagged cell makes the first-cell state queued at
the write pointer before the advance (R82). None when the ring is full. -/
def appendPictureCell (n : Svc) (start : Bool) (valid : Nat) (bits : List Bool) (s : State) : Option State :=
  match s.svc n with
  | some v =>
    match appendCell n { kind := .picture, service := n, start := start, validBits := valid,
                         payload := payloadOfBits bits } s with
    | some s' =>
      some (if start then s'.modPicture n fun p => { p with firstCell := .queued v.queue.write } else s')
    | none => none
  | none => none

/-- A part of a picture's bitstream written into the partial cell (R81). A cell it fills is appended at once, and the
rest of the part goes on in a new partial cell; a full ring abandons the picture (R85). A part is at most 282 bits
(R52), so that it fills at most one cell. -/
def writeBits (n : Svc) (bits : List Bool) (s : State) : State :=
  match s.picture n with
  | some p =>
    let all := p.cell.bits ++ bits
    if all.length < Config.payloadBits then
      s.modPicture n fun p => { p with cell := { p.cell with bits := all }, bitsSpent := p.bitsSpent + bits.length }
    else
      match appendPictureCell n p.cell.start Config.payloadBits (all.take Config.payloadBits) s with
      | some s' =>
        s'.modPicture n fun p =>
          { p with
            cell := { start := false, bits := all.drop Config.payloadBits }
            bitsSpent := p.bitsSpent + bits.length }
      | none => overflow n s
  | none => s

/-! ## Stripes and blocks (R29, R47, R66 to R68) -/

/-- A stripe begun under a qs: the qs becomes current and is added to the qs sum, the steps are computed, and the
stripe header is written (R47, R68). -/
def beginStripe (n : Svc) (qs : Nat) (emergency : Bool) (s : State) : State :=
  writeBits n (stripeHeader qs) <| s.modPicture n fun p =>
    { p with
      qs := qs
      qsSum := p.qsSum + qs
      emergency := emergency
      steps := stripeSteps ((s.quant.bank p.bank).table p.kind) qs }

/-- The Rate Controller's decision for the stripe that the next block begins (R66). -/
def decideStripe (n : Svc) (s : State) : State :=
  match s.svc n with
  | some v =>
    match v.picture with
    | some p =>
      let d := stripeDecision p v.ringFree (p.blocksCoded / p.blocksPerStripe)
      beginStripe n d.1 d.2 s
    | none => s
  | none => s

/-- One block of a BLOCKS record coded into the open picture (R29): the stripe decision where it begins a stripe, then
its quantization and its code. -/
def codeBlock (n : Svc) (b : Block) (s : State) : State :=
  match s.picture n with
  | some p =>
    let s1 := if p.beginsStripe p.blocksCoded then decideStripe n s else s
    match s1.picture n with
    | some p1 =>
      let s2 := s1.modPicture n fun p => { p with saturated := p.saturated || blockSaturates p1.steps p1.rnd b }
      (writeBits n (blockCode (quantizeBlock p1.steps p1.rnd b)) s2).modPicture n fun p =>
        { p with blocksCoded := p.blocksCoded + 1 }
    | none => s1
  | none => s

/-- One missing block coded empty by a close (R32 step 1): a header it begins carries the current qs unchanged. -/
def codeMissing (n : Svc) (s : State) : State :=
  match s.picture n with
  | some p =>
    let s1 := if p.beginsStripe p.blocksCoded then beginStripe n p.qs p.emergency s else s
    match s1.picture n with
    | some _ =>
      (writeBits n (blockCode []) s1).modPicture n fun p => { p with blocksCoded := p.blocksCoded + 1 }
    | none => s1
  | none => s

/-! ## Opening a picture (R28) -/

/-- The picture a valid PIC_HEAD opens, before its headers are written (R28 steps 1, 2 and 4; R64, R82). -/
def newPicture (s : State) (v : Service) (number : Half) (kind : PictureKind) (stripes bps : Nat) : OpenPicture :=
  let target := pictureTarget (pictureGrant s v) kind v.ringLength stripes bps
  let q0 := initialQs v.stats v.cfg.qinit v.cfg.qmin v.cfg.qmax target
  { number := number
    kind := kind
    stripes := stripes
    blocksPerStripe := bps
    blocksCoded := 0
    bank := s.quant.active
    rndIntra := v.cfg.rndIntra
    rndPred := v.cfg.rndPred
    saturated := false
    steps := stripeSteps ((s.quant.bank s.quant.active).table kind) q0
    qinit := v.cfg.qinit
    qmin := v.cfg.qmin
    qmax := v.cfg.qmax
    target := target
    qs := q0
    qsSum := q0
    bitsSpent := 0
    emergency := false
    cell := { start := true, bits := [] }
    firstCell := .unwritten }

/-- A marker is pending for service `n`. -/
def State.markerPending (s : State) (n : Svc) : Bool :=
  match s.svc n with
  | some v => v.queue.marker.isSome
  | none => false

/-- A valid PIC_HEAD opens a picture (R28). A marker that the test of step 5 leaves pending, because the ring is full,
abandons it at once (R91). A STALLED service becomes RUNNING in either case (step 7). The silence counter and the
expired mark stand as they are. DESIGN CHOICE (notes/assumptions/26.md): for a PIC_HEAD admitted before the expiry that
made the service STALLED, R38 says that from the open the counter counts from the value left by the latest admission,
but the expiry has set it to Z, and R35 says that it does not count while the mark is set; the model follows R35, so
that the counter does not count before the next admission. -/
def openPicture (n : Svc) (number : Half) (kind : PictureKind) (stripes bps complexity : Nat) (s : State) : State :=
  match s.svc n with
  | some v =>
    let pic := newPicture s v number kind stripes bps
    let s1 := ({ s with quant := s.quant.addUser s.quant.active } : State).modSvc n fun v =>
      { v with alloc := { v.alloc with complexity := max 1 complexity } }
    let s2 := markerTest n s1
    let s3 := s2.modSvc n fun v => v.setIngest (.inPicture pic)
    let s4 :=
      if s2.markerPending n then overflow n s3
      else writeBits n (pictureHeader number kind pic.bank stripes bps ++ stripeHeader pic.qs) s3
    s4.modSvc n fun v => if v.activity = .stalled then { v with activity := .running } else v
  | none => s

/-! ## Work on a record, stage by stage (R24, R26 to R34) -/

/-- A fault raised for what a record carries, and the end of the work on the record. -/
def refuseRecord (n : Svc) (code : FaultCode) (s : State) : State := (raiseFault n code s).finishRecord

/-- A PIC_HEAD refused for its format (R27). -/
def refuseFormat (n : Svc) (s : State) : State :=
  refuseRecord n .pictureFormat (s.modSvc n fun v => v.setIngest .discarding)

/-- A PIC_HEAD that finds a picture open forces its close (R26). -/
def forceClose (n : Svc) (s : State) : State := setPhase (.closing false) (raiseFault n .pictureUnclosed s)

/-- S and Bps lie in their ranges (R27). -/
abbrev headFits (stripes bps : Nat) : Prop := 1 ≤ stripes ∧ stripes ≤ 68 ∧ 1 ≤ bps ∧ bps ≤ 120

/-- A PIC_HEAD judged (R26, R27): a valid one opens its picture in the next stage (R28), so that a take can come between
the two marker tests of R89. -/
def judgeHead (n : Svc) (stripes bps : Nat) (draining : Bool) (v : Service) (s : State) : State :=
  if draining then refuseRecord n .strayInput s
  else
    match v.ingest.state with
    | .inPicture _ => forceClose n s
    | .idle | .discarding => if headFits stripes bps then setPhase .opening s else refuseFormat n s

/-- A BLOCKS record judged (R29, R31). -/
def judgeBlocks (n : Svc) (data : List Block) (v : Service) (s : State) : State :=
  match v.ingest.state with
  | .inPicture _ => setPhase (.coding data false) s
  | .discarding => s.finishRecord
  | .idle => refuseRecord n .strayInput s

/-- A PIC_TAIL judged (R32, R34). -/
def judgeTail (n : Svc) (number : Half) (v : Service) (s : State) : State :=
  match v.ingest.state with
  | .inPicture p => if number = p.number then setPhase (.closing false) s else refuseRecord n .strayInput s
  | .discarding => (s.modSvc n fun v => v.setIngest .idle).finishRecord
  | .idle => refuseRecord n .strayInput s

/-- A record judged (R39): `draining` says whether the service was DRAINING when the Packer took the record. -/
def judgeRecord (r : Record) (draining : Bool) (s : State) : State :=
  match s.svc r.service with
  | some v =>
    match r with
    | .picHead n _ _ stripes bps _ => judgeHead n stripes bps draining v s
    | .blocks n data => judgeBlocks n data v s
    | .picTail n number => judgeTail n number v s
  | none => s.finishRecord

/-- The start of the work on a record: a record of a service that is no participant is consumed silently (R24), one
that meets a withdrawal in flight is held (R86), and otherwise the marker test is made (R89) and the record judged. -/
def startRecord (r : Record) (draining : Bool) (s : State) : State :=
  if !s.isParticipant r.service then s.finishRecord
  else if s.withdrawing r.service then setPhase (.held draining) s
  else judgeRecord r draining (markerTest r.service s)

/-- Service `n` is DRAINING. -/
def State.isDraining (s : State) (n : Svc) : Bool :=
  match s.svc n with
  | some v => v.activity == .draining
  | none => false

/-- The Packer takes the record at the head of the ingest queue, if it holds none and the record is of the kind the
event names (R24), and judges it against its service's states as they stand (R39). -/
def takeRecord (kind : Record → Bool) (s : State) : State :=
  match s.packer, s.ingestQueue with
  | none, r :: rest =>
    if kind r then
      let draining := s.isDraining r.service
      startRecord r draining { s with ingestQueue := rest, packer := some { record := r, phase := .held draining } }
    else s
  | _, _ => s

/-- A PIC_HEAD opens its picture (R28), or is judged after the close it forced (R26, R27, R33, R37). DEDUCED
(notes/assumptions/19.md): a service stopped without flush since the head was taken keeps the head (R16, R39), one that
has become DEFINED has it consumed silently (R24). -/
def openingStage (r : Record) (s : State) : State :=
  match r, s.svc r.service with
  | .picHead n number kind stripes bps complexity, some v =>
    if !v.participant then s.finishRecord
    else if s.withdrawing n then setPhase (.held false) s
    else
      match v.ingest.state with
      | .inPicture _ => forceClose n s
      | .idle | .discarding =>
        if headFits stripes bps then (openPicture n number kind stripes bps complexity s).finishRecord
        else refuseFormat n s
  | _, _ => s.finishRecord

/-- The next block of a BLOCKS record (R29 to R31). -/
def codingStage (n : Svc) (rest : List Block) (excess : Bool) (s : State) : State :=
  match s.picture n, rest with
  | some p, b :: more =>
    let within := p.blocksCoded < p.totalBlocks
    let s1 :=
      if within then codeBlock n b s
      else if excess then s
      else raiseFault n .pictureExcess s
    if more.isEmpty then s1.finishRecord else setPhase (.coding more (excess || !within)) s1
  | some _, [] => s.finishRecord
  | none, _ => s.finishRecord

/-- What follows a close that an abandonment ended (R33): a tail has been received; a head that forced the close is
still to be judged, after the withdrawal if one is in flight (R86). -/
def afterAbandonedClose (n : Svc) (s : State) : State :=
  match s.packer with
  | some w =>
    match w.record with
    | .picTail _ _ => s.finishRecord
    | .picHead _ _ _ _ _ _ => setPhase (if s.withdrawing n then .held false else .opening) s
    | .blocks _ _ => s.finishRecord
  | none => s

/-- The end of a normal close (R32 steps 4 to 6), with the drain test of R4. -/
def normalClose (n : Svc) (p : OpenPicture) (s : State) : State :=
  let s1 := s.modSvc n fun v => { v with stats := some p.closeStats }
  let s2 := if p.saturated then raiseFault n .levelSaturated s1 else s1
  let s3 := ({ s2 with quant := s2.quant.dropUser p.bank } : State).modSvc n fun v => v.setIngest .idle
  drainTest n s3

/-- What follows a normal close: the tail's work ends, the head that forced the close is judged next (R26, R32). -/
def afterNormalClose (s : State) : State :=
  match s.packer with
  | some w =>
    match w.record with
    | .picHead _ _ _ _ _ _ => setPhase .opening s
    | .blocks _ _ | .picTail _ _ => s.finishRecord
  | none => s

/-- The next stage of a close (R32): a missing block, or the end of the close. -/
def closingStage (n : Svc) (short : Bool) (s : State) : State :=
  match s.picture n with
  | some p =>
    if p.blocksCoded < p.totalBlocks then
      let s1 := codeMissing n s
      if (s1.picture n).isSome then setPhase (.closing true) s1 else afterAbandonedClose n s1
    else
      let s1 := if short then raiseFault n .pictureShort s else s
      if p.cell.bits.isEmpty then afterNormalClose (normalClose n p s1)
      else
        match appendPictureCell n p.cell.start p.cell.bits.length p.cell.bits s1 with
        | some s2 => afterNormalClose (normalClose n p s2)
        | none => afterAbandonedClose n (overflow n s1)
  | none => afterAbandonedClose n s

/-- One stage of the Packer's work on the record it holds (R24; notes/assumptions/5.md). -/
def packerStage (s : State) : State :=
  match s.packer with
  | some w =>
    match w.phase with
    | .held _ => s
    | .opening => openingStage w.record s
    | .coding rest excess => codingStage w.record.service rest excess s
    | .closing short => closingStage w.record.service short s
    | .passing => s.finishRecord
  | none => s

/-- The Packer's work carried on for a number of stages, or until it ends (R24). -/
def runStages : Nat → State → State
  | 0, s => s
  | k + 1, s => runStages k (packerStage s)

/-- The Packer takes up the record it held through a withdrawal (R86): it stays held while the withdrawal is still in
flight, and is judged under the ingest state the abandonment left and the service state at its take (R39;
notes/assumptions/19.md). -/
def resumeHeld (s : State) : State :=
  match s.packer with
  | some w =>
    match w.phase with
    | .held draining => startRecord w.record draining s
    | .opening | .coding _ _ | .closing _ | .passing => s
  | none => s

end Sys2Proof.Machine
end

