-- ==== Sys2Proof/Machine/PictureEvents.lean ====
section
/-! DEFINITION. The contribution link (R21 to R23) and the Packer's and Queue Manager's events (R24, R28, R29, R32,
R86). -/

namespace Sys2Proof.Machine

/-! ## The contribution link -/

/-- A message discarded with its credit consumed and returned at once: the count stands, and one return is signalled
(R21, R22). -/
def returnArrival (s : State) : State := { s with clCredit := s.clCredit + 1 }

/-- A record admitted (R22, R36): it takes a credit, enters the tail of the ingest queue, and its service's silence
counter becomes 0 with its expired mark clear. -/
def admitRecord (r : Record) (s : State) : State :=
  ({ s with credits := s.credits - 1, ingestQueue := s.ingestQueue ++ [r] } : State).modSvc r.service fun v =>
    { v with ingest := { v.ingest with silence := 0, expired := false } }

/-- A burst of the contribution link tested and discarded or admitted (R22). -/
def arriveMessage (burst : List Byte) (s : State) : State :=
  if s.credits = 0 then recordCheck .linkOverrun (burstService burst) none s
  else
    match readBurst burst with
    | none => recordCheck .linkCrc (burstService burst) none (returnArrival s)
    | some r =>
      if s.isParticipant r.service then admitRecord r s
      else recordCheck .unrouted (burstService burst) none (returnArrival s)

/-- LINK_MESSAGE_ARRIVAL (R22). -/
def execLinkMessageArrival (burst : List Byte) (s : State) : Host.Outcome State Fault Refusal :=
  .next (operate (arriveMessage burst) s)

/-! ## The Packer -/

/-- The record is a PIC_HEAD. -/
def Record.isHead : Record → Bool
  | .picHead .. => true
  | .blocks .. | .picTail .. => false

/-- The record is a BLOCKS. -/
def Record.isBlocks : Record → Bool
  | .blocks .. => true
  | .picHead .. | .picTail .. => false

/-- The record is a PIC_TAIL. -/
def Record.isTail : Record → Bool
  | .picTail .. => true
  | .picHead .. | .blocks .. => false

/-- The Packer, holding no record, takes one of a kind and works on it for a number of stages (R24;
notes/assumptions/3.md, 5.md). -/
def takeAndWork (kind : Record → Bool) (stages : Nat) (s : State) : State :=
  match s.packer with
  | none => runStages stages (takeRecord kind s)
  | some _ => s

/-- The Packer takes up a held record and works on it for a number of stages (R86). -/
def resumeAndWork (stages : Nat) (s : State) : State :=
  match s.packer with
  | some w =>
    match w.phase with
    | .held _ => runStages stages (resumeHeld s)
    | .opening | .coding _ _ | .closing _ | .passing => s
  | none => s

/-- PIC_HEAD (R26 to R28). -/
def execPicHead (stages : Nat) (s : State) : Host.Outcome State Fault Refusal :=
  .next (operate (takeAndWork Record.isHead stages) s)

/-- BLOCKS (R29 to R31). -/
def execBlocks (stages : Nat) (s : State) : Host.Outcome State Fault Refusal :=
  .next (operate (takeAndWork Record.isBlocks stages) s)

/-- PIC_TAIL (R32 to R34). -/
def execPicTail (stages : Nat) (s : State) : Host.Outcome State Fault Refusal :=
  .next (operate (takeAndWork Record.isTail stages) s)

/-- HELD_RECORD_RESUME (R86). -/
def execHeldRecordResume (stages : Nat) (s : State) : Host.Outcome State Fault Refusal :=
  .next (operate (resumeAndWork stages) s)

/-- PACKER_RECORD_WORK (R24). -/
def execPackerRecordWork (stages : Nat) (s : State) : Host.Outcome State Fault Refusal :=
  .next (operate (runStages stages) s)

/-! ## The Queue Manager -/

/-- WITHDRAW (R86). -/
def execWithdraw (service : Svc) (s : State) : Host.Outcome State Fault Refusal :=
  .next (operate (withdrawStep service) s)

end Sys2Proof.Machine
end

