-- ==== Sys2Proof/Machine/Dispatch.lean ====
section
/-! DEFINITION. The dispatch: one arm per command, each one call of the command's meaning. -/

namespace Sys2Proof.Machine

/-- What a command does to the state of the part. -/
def exec (i : Instr) (s : State) : Host.Outcome State Fault Refusal :=
  match i with
  | .powerOn lineHeld => Sys2Proof.Machine.execPowerOn lineHeld s
  | .resetLine => Sys2Proof.Machine.execResetLine s
  | .portFrameEnd port received => Sys2Proof.Machine.execPortFrameEnd port received s
  | .svcDefine service cfg => Sys2Proof.Machine.execSvcDefine service cfg s
  | .svcModify service expected mask cfg => Sys2Proof.Machine.execSvcModify service expected mask cfg s
  | .svcStart service => Sys2Proof.Machine.execSvcStart service s
  | .svcStop service => Sys2Proof.Machine.execSvcStop service s
  | .svcStopFlush service => Sys2Proof.Machine.execSvcStopFlush service s
  | .svcRelease service => Sys2Proof.Machine.execSvcRelease service s
  | .svcQuery service => Sys2Proof.Machine.execSvcQuery service s
  | .weightsLoad intra predicted => Sys2Proof.Machine.execWeightsLoad intra predicted s
  | .weightsQuery => Sys2Proof.Machine.execWeightsQuery s
  | .muxSet f l a => Sys2Proof.Machine.execMuxSet f l a s
  | .muxQuery => Sys2Proof.Machine.execMuxQuery s
  | .status => Sys2Proof.Machine.execStatus s
  | .reset => Sys2Proof.Machine.execReset s
  | .faultsRead service => Sys2Proof.Machine.execFaultsRead service s
  | .faultsAck service => Sys2Proof.Machine.execFaultsAck service s
  | .checkRead => Sys2Proof.Machine.execCheckRead s
  | .checkClear => Sys2Proof.Machine.execCheckClear s
  | .checkMode mode => Sys2Proof.Machine.execCheckMode mode s
  | .keyLoad service phase expected key payload => Sys2Proof.Machine.execKeyLoad service phase expected key payload s
  | .keyClear service phase expected => Sys2Proof.Machine.execKeyClear service phase expected s
  | .keyPurge => Sys2Proof.Machine.execKeyPurge s
  | .keyStatus service selector => Sys2Proof.Machine.execKeyStatus service selector s
  | .requestsRead => Sys2Proof.Machine.execRequestsRead s
  | .linkMessageArrival burst => Sys2Proof.Machine.execLinkMessageArrival burst s
  | .picHead stages => Sys2Proof.Machine.execPicHead stages s
  | .blocks stages => Sys2Proof.Machine.execBlocks stages s
  | .picTail stages => Sys2Proof.Machine.execPicTail stages s
  | .withdraw service => Sys2Proof.Machine.execWithdraw service s
  | .heldRecordResume stages => Sys2Proof.Machine.execHeldRecordResume stages s
  | .frameStart early order => Sys2Proof.Machine.execFrameStart early order s
  | .silenceExpiry service => Sys2Proof.Machine.execSilenceExpiry service s
  | .periodExpiry service => Sys2Proof.Machine.execPeriodExpiry service s
  | .windowEnd service => Sys2Proof.Machine.execWindowEnd service s
  | .entitlementCountdownExpiry service => Sys2Proof.Machine.execEntitlementCountdownExpiry service s
  | .deferralLimit service => Sys2Proof.Machine.execDeferralLimit service s
  | .slotPull ecc => Sys2Proof.Machine.execSlotPull ecc s
  | .resetLineRelease => Sys2Proof.Machine.execResetLineRelease s
  | .packerRecordWork stages => Sys2Proof.Machine.execPackerRecordWork stages s

end Sys2Proof.Machine
end

