-- ==== Sys2Proof/Safety.lean ====
section
/-! DEFINITION. What a safe run is: no step of it stops, and the laws the manual gives the part hold in every state of
it. Each law is a predicate of one state. -/

namespace Sys2Proof.Machine

/-- The part is out of reset and nothing of a frame start is outstanding. -/
def State.atRest (s : State) : Prop := s.rstAsserted = false ∧ s.frameDue = []

/-- The next step does not stop. -/
def State.runs (s : State) : Prop := ∃ t, step s = .next t

/-- R21: the credits at the partner, the records in the ingest queue and the record the Packer holds total 64. -/
def State.creditLaw (s : State) : Prop :=
  s.credits + s.ingestQueue.length + (if s.packer.isSome then 1 else 0) = 64

/-- R176: CTL_ATTN is asserted exactly while a fault list is not empty or check attention is pending. -/
def State.ctlAttnLaw (s : State) : Prop :=
  s.ctlAttn = true ↔ s.checks.attention = true ∨ ∃ n : Svc, ∃ v ∈ s.svc n, v.faults.entries ≠ []

/-- R147: KEY_ATTN is asserted exactly while the key request set is not empty. -/
def State.keyAttnLaw (s : State) : Prop := s.keyAttn = true ↔ s.requests ≠ []

/-- R118, R147: at most one request and at most one due-list entry for each service. -/
def State.listsLaw (s : State) : Prop := (s.requests.map fun r => r.service).Nodup ∧ s.dueList.Nodup

/-- R75, R76: both pointers of a ring lie in the service's region. -/
def Service.pointersLaw (v : Service) : Prop :=
  v.cfg.base ≤ v.queue.read ∧ v.queue.read < v.cfg.base + 2 ^ v.cfg.k ∧
    v.cfg.base ≤ v.queue.write ∧ v.queue.write < v.cfg.base + 2 ^ v.cfg.k

/-- R2: the regions of services that are not UNUSED do not overlap. -/
def State.regionsLaw (s : State) : Prop :=
  ∀ m n : Svc, m ≠ n → ∀ v ∈ s.svc m, ∀ w ∈ s.svc n,
    v.cfg.base + 2 ^ v.cfg.k ≤ w.cfg.base ∨ w.cfg.base + 2 ^ w.cfg.k ≤ v.cfg.base

/-- The pool cell at a distance from the head of a ring (R75). -/
def Service.ringCell (v : Service) (i : Nat) : Nat := v.cfg.base + (v.queue.read - v.cfg.base + i) % 2 ^ v.cfg.k

/-- R75, R77: every cell that waits in a ring was appended, with at least one valid bit, for the ring's own service. -/
def State.cellsLaw (s : State) : Prop :=
  ∀ n : Svc, ∀ v ∈ s.svc n, ∀ i < v.ringLength,
    1 ≤ (Pool.read s.pool (v.ringCell i)).validBits ∧ (Pool.read s.pool (v.ringCell i)).service = n

/-- The rings and the pool: canonical form, pointers, regions and waiting cells. -/
def State.ringsLaw (s : State) : Prop :=
  s.pool.wf ∧ (∀ n : Svc, ∀ v ∈ s.svc n, v.pointersLaw) ∧ s.regionsLaw ∧ s.cellsLaw

/-- The open pictures that took a bank (R41). -/
def State.openOn (s : State) (b : Bank) : Nat :=
  (allServices.filter fun n => (s.picture n).any fun p => p.bank == b).length

/-- R41, R43: a bank's users count is the number of open pictures that took it. A DEFINED service has none. -/
def State.usersLaw (s : State) : Prop :=
  s.quant.users0 = s.openOn .zero ∧ s.quant.users1 = s.openOn .one ∧
    ∀ n : Svc, ∀ v ∈ s.svc n, v.activity = .defined → v.picture = none

/-- R179: a fault list holds at most 4 entries of different codes, each counted 1 to 255, and its more mark is set only
once it is full. -/
def FaultList.law (l : FaultList) : Prop :=
  l.entries.length ≤ 4 ∧ (l.entries.map fun e => e.code).Nodup ∧ (∀ e ∈ l.entries, 1 ≤ e.count ∧ e.count ≤ 255) ∧
    (l.more = true → l.entries.length = 4)

/-- R179 for every service. -/
def State.faultsLaw (s : State) : Prop := ∀ n : Svc, ∀ v ∈ s.svc n, v.faults.law

/-- R133, R161: a service that is no participant has no protection state; a CLEAR participant is CLEAR and no other
is; in SCRAMBLED, DEFERRED and LATE the current slot holds a key. -/
def Service.protectionLaw (v : Service) : Prop :=
  (v.activity = .defined ↔ v.keys.prot = none) ∧
    (v.keys.prot ≠ none → (v.keys.prot = some .clear ↔ v.cfg.protection = .clear)) ∧
    (v.keys.prot = some .scrambled ∨ v.keys.prot = some .deferred ∨ v.keys.prot = some .late →
      v.keys.current.isSome = true)

/-- The service whose protection state a piece of outstanding work may change. -/
def FrameWork.keyService : FrameWork → Option Svc
  | .period n | .window n | .deferral n => some n
  | .silence _ | .countdown _ | .allocate => none

/-- Outstanding key work stands for a service in the protection state its rule names (R136, R139, R142). -/
def State.workLaw (s : State) (w : FrameWork) : Prop :=
  match w with
  | .period n => ∃ v ∈ s.svc n, v.keys.prot = some .scrambled
  | .window n => ∃ v ∈ s.svc n, v.keys.prot = some .window
  | .deferral n => ∃ v ∈ s.svc n, v.keys.prot = some .deferred
  | .silence _ | .countdown _ | .allocate => True

/-- The key contexts and the outstanding key work, at most one piece for each service. -/
def State.keysLaw (s : State) : Prop :=
  (∀ n : Svc, ∀ v ∈ s.svc n, v.protectionLaw) ∧ (∀ w ∈ s.frameDue, s.workLaw w) ∧
    (s.frameDue.filterMap FrameWork.keyService).Nodup

/-- R13, R96: the participants fit the allocation period in force, and the two copies of the multiplex differ only while
an adoption is pending. -/
def State.capacityLaw (s : State) : Prop :=
  s.committedSlots ≤ s.inForce.periodSlots ∧ (s.adoptionPending = false → s.frameStruct = s.inForce)

/-- R101: no deficit exceeds its grant. -/
def State.deficitLaw (s : State) : Prop := ∀ n : Svc, ∀ v ∈ s.svc n, v.alloc.deficit ≤ v.alloc.grant

/-- R69: a service's bounds are in order, and the qs of its open picture lies within the bounds it latched. -/
def Service.rateLaw (v : Service) : Prop :=
  v.cfg.qmin ≤ v.cfg.qmax ∧ ∀ p ∈ v.picture, p.qmin ≤ p.qmax ∧ p.qmin ≤ p.qs ∧ p.qs ≤ p.qmax

/-- R69 for every service. -/
def State.rateLaw (s : State) : Prop := ∀ n : Svc, ∀ v ∈ s.svc n, v.rateLaw

/-- R77, R81: a partial cell holds fewer than 736 bits, the steps of a stripe are sixteen, and no cell of the pool has
more than 736 valid bits. -/
def State.cellSizeLaw (s : State) : Prop :=
  (∀ n : Svc, ∀ p ∈ s.picture n, p.cell.bits.length < 736 ∧ p.steps.length = 16) ∧
    ∀ x ∈ s.pool.cells, x.2.validBits ≤ 736

/-- R96, R113: F, L and A lie in their ranges in both copies, and the slot index names a slot of the frame. -/
def State.frameLaw (s : State) : Prop :=
  s.inForce.inRange = true ∧ s.frameStruct.inRange = true ∧ s.slotIndex < s.frameStruct.f

/-! ## What statements say about commands -/

/-- The request a port-command row stands for (R193; notes/assumptions/2.md). -/
def requestOf : Instr → Option Request
  | .svcDefine n cfg => some (.svcDefine n cfg)
  | .svcModify n expected mask cfg => some (.svcModify n expected mask cfg)
  | .svcStart n => some (.svcStart n)
  | .svcStop n => some (.svcStop n 0)
  | .svcStopFlush n => some (.svcStop n 1)
  | .svcRelease n => some (.svcRelease n)
  | .svcQuery n => some (.svcQuery n)
  | .weightsLoad intra predicted => some (.weightsLoad intra predicted)
  | .weightsQuery => some .weightsQuery
  | .muxSet f l a => some (.muxSet f l a)
  | .muxQuery => some .muxQuery
  | .status => some .status
  | .reset => some .reset
  | .faultsRead n => some (.faultsRead n)
  | .faultsAck n => some (.faultsAck n)
  | .checkRead => some .checkRead
  | .checkClear => some .checkClear
  | .checkMode m => some (.checkMode m)
  | .keyLoad n phase expected key payload => some (.keyLoad n phase expected key payload)
  | .keyClear n phase expected => some (.keyClear n phase expected)
  | .keyPurge => some .keyPurge
  | .keyStatus n selector => some (.keyStatus n selector)
  | .requestsRead => some .requestsRead
  | .powerOn _ | .resetLine | .portFrameEnd _ _ | .linkMessageArrival _ | .picHead _ | .blocks _ | .picTail _
  | .withdraw _ | .heldRecordResume _ | .frameStart _ _ | .silenceExpiry _ | .periodExpiry _ | .windowEnd _
  | .entitlementCountdownExpiry _ | .deferralLimit _ | .slotPull _ | .resetLineRelease | .packerRecordWork _ => none

/-- The commands of the supply and the reset line. -/
def isLineCommand : Instr → Bool
  | .powerOn _ | .resetLine | .resetLineRelease => true
  | .portFrameEnd _ _ | .svcDefine _ _ | .svcModify _ _ _ _ | .svcStart _ | .svcStop _ | .svcStopFlush _
  | .svcRelease _ | .svcQuery _ | .weightsLoad _ _ | .weightsQuery | .muxSet _ _ _ | .muxQuery | .status | .reset
  | .faultsRead _ | .faultsAck _ | .checkRead | .checkClear | .checkMode _ | .keyLoad _ _ _ _ _ | .keyClear _ _ _
  | .keyPurge | .keyStatus _ _ | .requestsRead | .linkMessageArrival _ | .picHead _ | .blocks _ | .picTail _
  | .withdraw _ | .heldRecordResume _ | .frameStart _ _ | .silenceExpiry _ | .periodExpiry _ | .windowEnd _
  | .entitlementCountdownExpiry _ | .deferralLimit _ | .slotPull _ | .packerRecordWork _ => false

/-- The outstanding work an expiry row takes. -/
def expiryOf : Instr → Option FrameWork
  | .silenceExpiry n => some (.silence n)
  | .periodExpiry n => some (.period n)
  | .windowEnd n => some (.window n)
  | .entitlementCountdownExpiry n => some (.countdown n)
  | .deferralLimit n => some (.deferral n)
  | .powerOn _ | .resetLine | .portFrameEnd _ _ | .svcDefine _ _ | .svcModify _ _ _ _ | .svcStart _ | .svcStop _
  | .svcStopFlush _ | .svcRelease _ | .svcQuery _ | .weightsLoad _ _ | .weightsQuery | .muxSet _ _ _ | .muxQuery
  | .status | .reset | .faultsRead _ | .faultsAck _ | .checkRead | .checkClear | .checkMode _ | .keyLoad _ _ _ _ _
  | .keyClear _ _ _ | .keyPurge | .keyStatus _ _ | .requestsRead | .linkMessageArrival _ | .picHead _ | .blocks _
  | .picTail _ | .withdraw _ | .heldRecordResume _ | .frameStart _ _ | .slotPull _ | .resetLineRelease
  | .packerRecordWork _ => none

/-- A port after it has taken a request: the take number raised, and the response held with its response code, the new
take number and the command's fields (R169, R171). -/
def State.answered (s : State) (p : PortId) (code resp : Byte) (fields : List Byte) : State :=
  s.setPort p
    { s.port p with
      take := (s.port p).take + 1
      held := some (message (code ||| 0x80#8) (resp :: ((s.port p).take + 1) :: fields)) }

/-- A service after its entry to DEFINED (R6). -/
def Service.toDefined (v : Service) : Service :=
  { v with
    activity := .defined
    ingest := { v.ingest with state := .idle }
    alloc := { v.alloc with deficit := 0 }
    keys := { v.keys with prot := none } }

/-- The state after service `n`, left as `w`, has entered DEFINED: its request and its due-list entry are gone
(R6, R147). -/
def State.withDefined (s : State) (n : Svc) (w : Service) : State :=
  { s.putSvc n (some w.toDefined) with
    requests := s.requests.filter fun r => r.service != n
    keyAttn := !(s.requests.filter fun r => r.service != n).isEmpty
    dueList := s.dueList.filter fun m => m != n }

/-- The state after the Packer's work on its record has ended (R21, R24). -/
def State.recordDone (s : State) : State :=
  { s with packer := none, credits := s.credits + 1, clCredit := s.clCredit + 1 }

/-- A pointer one cell further on within a service's region (R75). -/
def Service.onward (v : Service) (ptr : Nat) : Nat := if ptr + 1 < v.cfg.base + 2 ^ v.cfg.k then ptr + 1 else v.cfg.base

/-- The queue descriptor that an abandonment of the open picture `p` leaves (R84, R88): its withdrawal in flight, or,
with no cell of it in the ring, its loss counted in the marker at once. -/
def Service.lossQueue (v : Service) (p : OpenPicture) : QueueDesc :=
  if p.firstCell = .unwritten then
    { v.queue with marker := some (match v.queue.marker with
      | none => { firstNumber := p.number, cut := false, count := 1 }
      | some m => { m with count := min 255 (m.count + 1) }) }
  else { v.queue with withdrawal := some { number := p.number, firstCell := p.firstCell } }

/-- The state after bits have been written into the open picture `p` of service `n`, whose entry is `v` (R65, R81, R82,
R84, R85): they follow the bits of the partial cell; the first 736 are appended as a cell when there are that many, the
rest begins the next cell; a full ring raises QUEUE_OVERFLOW and abandons the picture into DISCARDING instead. -/
def State.written (s : State) (n : Svc) (v : Service) (p : OpenPicture) (bits : List Bool) : State :=
  let all := p.cell.bits ++ bits
  let spent := p.bitsSpent + bits.length
  let going (q : OpenPicture) : IngestCtx := { v.ingest with state := .inPicture q }
  if all.length < 736 then
    s.putSvc n (some { v with ingest := going { p with cell := { p.cell with bits := all }, bitsSpent := spent } })
  else if v.ringLength ≠ 2 ^ v.cfg.k - 1 then
    let full : PoolCell :=
      { kind := .picture, service := n, start := p.cell.start, validBits := 736, payload := payloadOfBits (all.take 736) }
    let pic : OpenPicture :=
      { p with
        cell := { start := false, bits := all.drop 736 }
        bitsSpent := spent
        firstCell := if p.cell.start then .queued v.queue.write else p.firstCell }
    ({ s with pool := s.pool.write v.queue.write full } : State).putSvc n
      (some { v with queue := { v.queue with write := v.onward v.queue.write }, ingest := going pic })
  else
    ({ s with quant := s.quant.dropUser p.bank, ctlAttn := s.ctlAttn || v.faults.entries.isEmpty } : State).putSvc n
      (some
        { v with
          queue := v.lossQueue p
          ingest := { v.ingest with state := .discarding }
          faults := v.faults.raise .queueOverflow s.frameNumber })

/-- The state with service `n` left as `w` by an event that makes the drain test of R4: DEFINED if `w` is DRAINING with
no open picture, an empty ring, no marker and no withdrawal, and not in BLACKOUT (R5, R143). -/
def State.putDrained (s : State) (n : Svc) (w : Service) : State :=
  if w.activity = .draining ∧ w.keys.prot ≠ some .blackout ∧ w.picture = none ∧ w.queue.read = w.queue.write ∧
      w.queue.marker = none ∧ w.queue.withdrawal = none then
    s.withDefined n w
  else s.putSvc n (some w)

/-- The state after a request for service `n` has been added (R147): an entry of the service keeps its place, takes the
phase, and stays urgent if it was; without one a new entry goes to the tail; KEY_ATTN is asserted. -/
def State.asked (s : State) (n : Svc) (ph : Phase) (urgent : Bool) : State :=
  { s with
    requests :=
      if ∃ e ∈ s.requests, e.service = n then
        s.requests.map fun e =>
          if e.service = n then { service := n, phase := ph, urgent := e.urgent || urgent } else e
      else s.requests ++ [{ service := n, phase := ph, urgent := urgent }]
    keyAttn := true }

/-- The state after a request has been added, if one is due. -/
def State.askedIf (s : State) (due : Prop) [Decidable due] (n : Svc) (ph : Phase) : State :=
  if due then s.asked n ph false else s

/-- The state after the cell of the pending marker `m` of service `n`, whose entry is `v`, has been appended (R89, R191). -/
def State.gapAppended (s : State) (n : Svc) (v : Service) (m : Marker) : State :=
  ({ s with
    pool := s.pool.write v.queue.write
      { kind := .gap, service := n, start := false, validBits := 32
        payload := payloadOfBytes (be16 m.firstNumber ++ [if m.cut then 1 else 0, byteOf m.count]) } } : State).putSvc n
    (some { v with queue := { v.queue with marker := none, write := v.onward v.queue.write } })

/-- The cases in which an arriving burst is not read (R22 second test, R192): too short, of another length than its
length field says, a failed CRC, an unknown kind, a service above 15, and a body that its kind does not have. -/
def burstUnreadable (burst : List Byte) : Prop :=
  let byte (i : Nat) : Nat := (burst.getD i 0).toNat
  let length := 256 * byte 2 + byte 3
  burst.length < 6 ∨ burst.length ≠ 6 + length ∨
    (crc16 (burst.take (4 + length))).toNat ≠ 256 * byte (4 + length) + byte (5 + length) ∨
    (byte 0 ≠ 1 ∧ byte 0 ≠ 2 ∧ byte 0 ≠ 3) ∨ 15 < byte 1 ∨
    (byte 0 = 1 ∧ (length ≠ 7 ∨ 1 < byte 6)) ∨
    (byte 0 = 2 ∧ (byte 4 = 0 ∨ 8 < byte 4 ∨ length ≠ 1 + 24 * byte 4)) ∨
    (byte 0 = 3 ∧ length ≠ 2)

/-- A service that a search passes over: it has no cell available (R121). -/
def Service.nothingToSend (v : Service) : Prop :=
  v.activity = .defined ∨ v.keys.prot = some .blackout ∨ (v.queue.read = v.queue.write ∧ v.queue.marker = none)

/-- No ENTITLE cell goes into a payload slot, and `left` is what it leaves of the due list: the list is empty, or its head
holds no key and leaves it (R117, R119). -/
def State.dueLeft (s : State) (left : List Svc) : Prop :=
  (s.dueList = [] ∧ left = []) ∨
    ∃ m, s.dueList = m :: left ∧ ∀ u ∈ s.svc m, u.keys.slot0 = none ∧ u.keys.slot1 = none

/-- The silence timer of a service expires at a frame start (R35). -/
def Service.silenceEnds (v : Service) : Prop :=
  (v.activity = .running ∨ v.activity = .draining) ∧ v.ingest.expired = false ∧ v.cfg.z ≤ v.ingest.silence + 1

/-- The configuration block's fields lie in their ranges (R8; 01_services.md, "The entry"). -/
def blockInRange (b : CfgBlock) : Prop := ∀ i ∈ cfgFields, cfgFieldInRange b i = true

/-- A region is aligned to its size and lies in the pool (R2, first stage). -/
def SvcConfig.placed (c : SvcConfig) : Prop := c.base % 2 ^ c.k = 0 ∧ c.base + 2 ^ c.k ≤ 4096

/-- A region shares no cell with that of any other service (R2, second stage). -/
def State.regionFree (s : State) (n : Svc) (c : SvcConfig) : Prop :=
  ∀ m : Svc, m ≠ n → ∀ v ∈ s.svc m, c.base + 2 ^ c.k ≤ v.cfg.base ∨ v.cfg.base + 2 ^ v.cfg.k ≤ c.base

/-- The capacity check passes with a service taken as a participant with a configuration (R13). -/
def State.fits (s : State) (n : Svc) (c : SvcConfig) : Prop :=
  ((s.participants.filter fun x => x.1 != n).map fun x => x.2.cfg.committed s.inForce.a).sum
    + c.committed s.inForce.a ≤ s.inForce.periodSlots

end Sys2Proof.Machine
end

