-- ==== Sys2Proof/WellFormed.lean ====
section
/-! DEFINITION. When a command can be carried by its message. Every other operand is bounded by its type; a value
outside a field's RANGE is well formed, because the part takes such a command and refuses it (R7, R150). -/

namespace Sys2Proof

/-- A KEY_LOAD's payload fits the one-byte length of its message: 12 bytes of fields before it, 255 in all (R167,
R193). -/
def keyPayloadFits (payload : List Byte) : Bool := payload.length ≤ 243

/-- Each service stands at most once in a frame start's order of work (R135: the work of each service is done once). -/
def orderFits (order : List Svc) : Bool := decide order.Nodup

/-- Whether a command can reach the part as written. -/
def Instr.wellFormed (i : Instr) : Bool :=
  match i with
  | .keyLoad _ _ _ _ payload => keyPayloadFits payload
  | .frameStart _ order => orderFits order
  | .powerOn _ | .resetLine | .portFrameEnd _ _ | .svcDefine _ _ | .svcModify _ _ _ _ | .svcStart _ | .svcStop _
  | .svcStopFlush _ | .svcRelease _ | .svcQuery _ | .weightsLoad _ _ | .weightsQuery | .muxSet _ _ _ | .muxQuery
  | .status | .reset | .faultsRead _ | .faultsAck _ | .checkRead | .checkClear | .checkMode _ | .keyClear _ _ _
  | .keyPurge | .keyStatus _ _ | .requestsRead | .linkMessageArrival _ | .picHead _ | .blocks _ | .picTail _ | .withdraw _
  | .heldRecordResume _ | .silenceExpiry _ | .periodExpiry _ | .windowEnd _ | .entitlementCountdownExpiry _
  | .deferralLimit _ | .slotPull _ | .resetLineRelease | .packerRecordWork _ => true

end Sys2Proof
end

