-- ==== Sys2Proof/Certificates/Slice0/Obligations.lean ====
section
/-! DEFINITION. The statements about the part. A rule number in a docstring says what the statement rests on, and
OBLIGATIONS.json says which rules a statement states whole. Where a statement rests on a choice of the model, its docstring
names the log entry. -/

open Sys2Proof Sys2Proof.Machine

/-! ## The part as a whole -/

/-- One step carries out the command at the front of the queue with the rest left waiting; an empty queue leaves the
part as it is. The queue is the model's choice (notes/assumptions/1.md). -/
def Obligations.StepTakesFrontCommand : Prop :=
  ∀ (c : Instr) (rest : List Instr) (s : State),
    step { s with pending := c :: rest } = exec c { s with pending := rest } ∧
      step { s with pending := [] } = .next { s with pending := [] }

/-- What power-on leaves: no services, an empty ingest queue and 64 credits, default banks and multiplex, frame number,
slot index, due list and pointer at their start, no requests, idle ports, a clean check record in mode 3. -/
def Obligations.ResetValues : Prop :=
  (∀ n, State.reset.svc n = none) ∧ State.reset.ingestQueue = [] ∧ State.reset.packer = none ∧
    State.reset.credits = 64 ∧
    State.reset.quant.bank0.intra.toList.map BitVec.toNat
      = [16, 16, 16, 18, 18, 20, 22, 24, 24, 26, 28, 30, 32, 34, 36, 40] ∧
    State.reset.quant.bank0.predicted.toList.map BitVec.toNat = List.replicate 16 16 ∧
    State.reset.quant.bank1 = State.reset.quant.bank0 ∧ State.reset.quant.active = .zero ∧
    State.reset.quant.users0 = 0 ∧ State.reset.quant.users1 = 0 ∧
    State.reset.inForce = { f := 512, l := 4, a := 2 } ∧ State.reset.frameStruct = { f := 512, l := 4, a := 2 } ∧
    State.reset.adoptionPending = false ∧ State.reset.frameNumber = 0 ∧ State.reset.slotIndex = 0 ∧
    State.reset.dueList = [] ∧ State.reset.rrPointer = 0 ∧ State.reset.requests = [] ∧
    State.reset.keyAttn = false ∧ State.reset.ctlAttn = false ∧ State.reset.checks.flags = 0 ∧
    State.reset.checks.detail = none ∧ State.reset.checks.attention = false ∧ State.reset.checks.mode = 3 ∧
    (∀ p, (State.reset.port p).held = none ∧ (State.reset.port p).take = 0 ∧ (State.reset.port p).rx = []) ∧
    State.reset.startCause = .power

/-- Power-on and an assertion of the reset line bring every block to its power-on state with the start cause of the
event, whatever the state before; the release changes nothing but the line. That the waiting commands stay, and that a
line asserted already is not asserted again, is the model's choice (notes/assumptions/1.md, 4.md). -/
def Obligations.PowerAndResetLine : Prop :=
  ∀ (s : State) (h : Bool),
    exec (.powerOn h) s = .next { State.reset with startCause := .power, rstAsserted := h, pending := s.pending } ∧
      (s.rstAsserted = false →
        exec .resetLine s
          = .next { State.reset with startCause := .line, rstAsserted := true, pending := s.pending }) ∧
      exec .resetLineRelease s = .next { s with rstAsserted := false }

/-- Two choices of the model. While RST_N is asserted no command but those of the supply and the line changes anything
(notes/assumptions/4.md). Out of reset, a command that is no expiry finds the outstanding work of the last frame start
done (notes/assumptions/6.md). -/
def Obligations.AssertedLineAndOutstandingWork : Prop :=
  (∀ (c : Instr) (s : State), s.rstAsserted = true → isLineCommand c = false → exec c s = .next s) ∧
  (∀ (c : Instr) (s : State), s.rstAsserted = false → isLineCommand c = false → expiryOf c = none →
      exec c s = exec c (settle s) ∧ (settle s).frameDue = [])

/-! ## The message ports -/

/-- Every request of either port is read back from the message that carries it, bytes after the check byte ignored:
no bit of any field is dropped (R167, R193). -/
def Obligations.RequestReadsBackFromItsMessage : Prop :=
  ∀ (r : Request) (extra : List Byte), r.fields.length ≤ 255 →
    frameRequest r.port (r.message ++ extra) = .request r

/-- PORT_FRAME_END with a request's message: the port completes the read of a held response the frame was long enough
for, and then takes the request as its own row of the table does (R166, R169, R170; notes/assumptions/2.md, 12.md). -/
def Obligations.FrameEndTakesTheRequest : Prop :=
  ∀ (i : Instr) (r : Request) (extra : List Byte) (s : State),
    requestOf i = some r → i.wellFormed = true → s.atRest → (s.port r.port).rx = [] →
    (∀ m ∈ (s.port r.port).held, m.length ≤ (r.message ++ extra).length) →
    exec (.portFrameEnd r.port (r.message ++ extra)) s
      = exec i (s.setPort r.port
          { held := none
            take := (s.port r.port).take
            rx := []
            dataOut := (((s.port r.port).held.getD []) ++ List.replicate (r.message ++ extra).length 0xFF#8).take
              (r.message ++ extra).length })

/-- A frame that carries a request and ends before the held response is out: the request is discarded, the response stays
held, the take number stands, and PORT_FORMAT is recorded (R169, R170). A frame without a request that sends every byte
of the held response releases it, and one too short leaves it held; the port sends the response and then 0xFF (R166,
R170). -/
def Obligations.FramesReadTheHeldResponse : Prop :=
  (∀ (p : PortId) (m received : List Byte) (s : State),
      s.atRest → (s.port p).rx = [] → (s.port p).held = some m → received.length < m.length →
      received ≠ [] → received.head? ≠ some 0xFF#8 →
      ∃ t, exec (.portFrameEnd p received) s = .next t ∧
        t.port p = { held := some m, take := (s.port p).take, rx := [], dataOut := m.take received.length } ∧
        t.checks.flags = s.checks.flags ||| 1#8 ∧
        (s.checks.detail = none →
          t.checks.detail = some { cls := .portFormat, service := none, frame := s.frameNumber, cellIndex := none }) ∧
        (s.checks.mode = 3 → t.checks.attention = true ∧ t.ctlAttn = true) ∧
        t = { s with control := t.control, key := t.key, checks := t.checks, ctlAttn := t.ctlAttn } ∧
        t.port (match p with | .control => .key | .key => .control)
          = s.port (match p with | .control => .key | .key => .control)) ∧
  (∀ (p : PortId) (m received : List Byte) (s : State),
      s.atRest → (s.port p).rx = [] → (s.port p).held = some m → received.head? = some 0xFF#8 →
      exec (.portFrameEnd p received) s
        = .next (s.setPort p
            { held := if m.length ≤ received.length then none else some m
              take := (s.port p).take
              rx := []
              dataOut := (m ++ List.replicate received.length 0xFF#8).take received.length }))

/-- A request that fails a framing test is taken all the same (R168, R169): the port's take number rises, its answer is
FORMAT (9) or UNKNOWN (10) with the code as received and no fields, and nothing else changes but that FORMAT records
PORT_FORMAT. The port held no response, or one that the frame sent in full. -/
def Obligations.FramingFailuresAreAnswered : Prop :=
  ∀ (p : PortId) (code : Byte) (rest : List Byte) (s : State),
    let whole := code :: rest
    s.atRest → (s.port p).rx = [] → (∀ m ∈ (s.port p).held, m.length ≤ whole.length) → code ≠ 0xFF#8 →
    let len := (rest.headD 0).toNat
    let short := rest = [] ∨ whole.length < len + 3
    let sumWrong := byteSum (whole.take (len + 3)) ≠ 0
    let foreign := code ∉ portCodes p
    let badLength := lengthAllowed code len = false
    let take := (s.port p).take + 1
    let answered (resp : Byte) : Port :=
      { held := some (message (code ||| 0x80#8) [resp, take])
        take := take
        rx := []
        dataOut := (((s.port p).held.getD []) ++ List.replicate whole.length 0xFF#8).take whole.length }
    ((short ∨ sumWrong) ∨ (¬ foreign ∧ badLength) →
      exec (.portFrameEnd p whole) s = .next ((recordCheck .portFormat none none s).setPort p (answered 9))) ∧
    (¬ short ∧ ¬ sumWrong ∧ foreign → exec (.portFrameEnd p whole) s = .next (s.setPort p (answered 10)))

/-- A command refused with any code other than OK changes no state outside its port (R171). -/
def Obligations.RefusalsChangeNothing : Prop :=
  ∀ (p : PortId) (r : Request) (s : State),
    let reply := (runRequest r (countTake p s)).2
    reply.code ≠ .ok → takeRequest p r s = s.answered p r.code reply.code.byte reply.fields

/-! ## Service commands -/

/-- An accepted SVC_DEFINE makes an UNUSED entry DEFINED with revision 0 and the runtime state of R9 and R131, changes
no other entry and nothing else, and is answered OK with the state and revision. -/
def Obligations.SvcDefineCreatesTheService : Prop :=
  ∀ (s : State) (n : Svc) (b : Byte) (cfg : CfgBlock),
    s.atRest → b.toNat = n.val → s.svc n = none → blockInRange cfg → cfg.qmin.toNat ≤ cfg.qmax.toNat →
    cfg.floor.toNat ≤ s.inForce.f - s.inForce.l → (SvcConfig.ofBlock cfg).placed →
    s.regionFree n (SvcConfig.ofBlock cfg) →
    ∃ w : Service, exec (.svcDefine b cfg) s = .next ((s.putSvc n (some w)).answered .control 0x01 0 [b, 1, 0, 0]) ∧
      w.cfg = SvcConfig.ofBlock cfg ∧ w.activity = .defined ∧ w.revision = 0 ∧
      w.queue = { read := w.cfg.base, write := w.cfg.base, marker := none, withdrawal := none } ∧
      w.ingest.state = .idle ∧ w.stats = none ∧ w.contPicture = 0 ∧ w.contEntitle = 0 ∧ w.cellSeq = 0 ∧
      w.faults = { entries := [], more := false } ∧ w.keys.slot0 = none ∧ w.keys.slot1 = none ∧
      w.keys.generation = 0 ∧ w.keys.phase = w.cfg.startPhase ∧ w.keys.prot = none ∧ w.keys.windowSpent = false ∧
      w.keys.requestMark = false ∧ w.keys.deferral = 0 ∧ w.keys.countdown = w.cfg.e ∧ w.keys.stamp = none

/-- SVC_DEFINE's and SVC_MODIFY's refusals in their order (R2, R7, R8, R10): NO_SERVICE; for a modify STALE; BUSY for an
entry that is not UNUSED, or for a field that is not live in a participant; RANGE for a field, the bounds, the floor or
the place of the region; OVERLAP for shared cells; CAPACITY for a participant's floor or E. Nothing but the port
changes. -/
def Obligations.DefineAndModifyRefusals : Prop :=
  (∀ (s : State) (b : Byte) (cfg : CfgBlock), s.atRest →
      (16 ≤ b.toNat → exec (.svcDefine b cfg) s = .next (s.answered .control 0x01 3 [b, 0, 0, 0])) ∧
      ∀ n : Svc, b.toNat = n.val →
        (∀ v, s.svc n = some v →
          exec (.svcDefine b cfg) s
            = .next (s.answered .control 0x01 1 (b :: v.activity.byte :: be16 v.revision))) ∧
        (s.svc n = none →
          let c := SvcConfig.ofBlock cfg
          let ranged := blockInRange cfg ∧ c.qmin ≤ c.qmax ∧ c.floor ≤ s.inForce.f - s.inForce.l ∧ c.placed
          (¬ ranged → exec (.svcDefine b cfg) s = .next (s.answered .control 0x01 2 [b, 0, 0, 0])) ∧
          (ranged → ¬ s.regionFree n c →
            exec (.svcDefine b cfg) s = .next (s.answered .control 0x01 6 [b, 0, 0, 0])))) ∧
  (∀ (s : State) (b : Byte) (expected : Half) (mask : BitVec 24) (cfg : CfgBlock), s.atRest →
      (s.named b = none →
        exec (.svcModify b expected mask cfg) s = .next (s.answered .control 0x02 3 [b, 0, 0, 0])) ∧
      ∀ (n : Svc) (v : Service), b.toNat = n.val → s.svc n = some v →
        let answer (code : Byte) := s.answered .control 0x02 code (b :: v.activity.byte :: be16 v.revision)
        let c := v.cfg.overlay mask cfg
        let live := v.activity = .defined ∨ ∀ i ∈ [0, 1, 2, 10, 11, 12, 18], selects mask i = false
        let ranged := (∀ i ∈ cfgFields, selects mask i = true → cfgFieldInRange cfg i = true) ∧ c.qmin ≤ c.qmax ∧
          c.floor ≤ s.inForce.f - s.inForce.l ∧ ((selects mask 0 = true ∨ selects mask 1 = true) → c.placed)
        (expected ≠ v.revision → exec (.svcModify b expected mask cfg) s = .next (answer 4)) ∧
        (expected = v.revision → ¬ live → exec (.svcModify b expected mask cfg) s = .next (answer 1)) ∧
        (expected = v.revision → live → ¬ ranged → exec (.svcModify b expected mask cfg) s = .next (answer 2)) ∧
        (expected = v.revision → live → ranged → (selects mask 0 = true ∨ selects mask 1 = true) →
          ¬ s.regionFree n c → exec (.svcModify b expected mask cfg) s = .next (answer 6)) ∧
        (expected = v.revision → live → ranged → v.activity ≠ .defined →
          (selects mask 3 = true ∨ selects mask 14 = true) → ¬ s.fits n c →
          exec (.svcModify b expected mask cfg) s = .next (answer 5)))

/-- An accepted SVC_MODIFY stores exactly the selected fields and raises the revision by one; a region that is selected
moves both pointers to its base, and a selected start phase becomes the current phase, the generation rising if that
changes it (R10 to R12). Nothing else changes. -/
def Obligations.SvcModifyStoresTheFields : Prop :=
  ∀ (s : State) (n : Svc) (b : Byte) (v : Service) (mask : BitVec 24) (cfg : CfgBlock),
    let c := v.cfg.overlay mask cfg
    let moves := selects mask 0 = true ∨ selects mask 1 = true
    s.atRest → b.toNat = n.val → s.svc n = some v →
    (v.activity ≠ .defined → ∀ i ∈ [0, 1, 2, 10, 11, 12, 18], selects mask i = false) →
    (∀ i ∈ cfgFields, selects mask i = true → cfgFieldInRange cfg i = true) → c.qmin ≤ c.qmax →
    c.floor ≤ s.inForce.f - s.inForce.l → (moves → c.placed ∧ s.regionFree n c) →
    (v.activity ≠ .defined → selects mask 3 = true ∨ selects mask 14 = true → s.fits n c) →
    exec (.svcModify b v.revision mask cfg) s
      = .next ((s.putSvc n (some
          { v with
            cfg := c
            revision := v.revision + 1
            queue := if selects mask 0 || selects mask 1 then { v.queue with read := c.base, write := c.base } else v.queue
            keys :=
              if selects mask 18 then
                { v.keys with
                  phase := c.startPhase
                  generation := if c.startPhase = v.keys.phase then v.keys.generation else v.keys.generation + 1 }
              else v.keys })).answered .control 0x02 0 (b :: v.activity.byte :: be16 (v.revision + 1)))

/-- An accepted SVC_START makes a DEFINED service RUNNING with the runtime state of R14: pointers at the base, no marker,
complexity 1,024, grant and deficit 0, fallback marked, no statistics, IDLE with silence counter 0, cell sequence number
0, deferral counter 0. Counters, slots, phase and generation stay, and so do all other services, the pool, the queues and
the output. It sets the protection state of R15, with the timer and the entitlement countdown; a start into WINDOW clears
the window spent mark. A timer loaded with a lead of at least p × c asks for the empty wanted slot at once, the current slot
in WINDOW and the next slot under REPEAT, and marks the request (R148). A start into BLACKOUT raises the fault and an urgent
request for the current phase (R143). That a start of a service whose protection is CLEAR leaves the window spent mark is
the model's choice (notes/assumptions/28.md). -/
def Obligations.SvcStartSetsTheService : Prop :=
  ∀ (s : State) (n : Svc) (b : Byte) (v : Service),
    s.atRest → b.toNat = n.val → s.svc n = some v → v.activity = .defined → s.fits n v.cfg →
    let full : PeriodTimer := { prescale := v.cfg.p, count := v.cfg.c }
    let early := v.cfg.p * v.cfg.c ≤ v.cfg.lead
    let keys : KeyCtx := { v.keys with
      deferral := 0
      countdown := if v.cfg.protection = .scrambled ∧ v.keys.hasKey = true then 1 else v.keys.countdown }
    let starts (u : State) (k : KeyCtx) (faults : FaultList) : Prop :=
      exec (.svcStart b) s
        = .next ((u.putSvc n (some
            { v with
              activity := .running
              queue := { read := v.cfg.base, write := v.cfg.base, marker := none, withdrawal := none }
              ingest := { state := .idle, silence := 0, expired := false }
              stats := none
              alloc := { v.alloc with complexity := 1024, grant := 0, deficit := 0, fallback := true }
              keys := k
              cellSeq := 0
              faults := faults })).answered .control 0x03 0 (b :: 2 :: be16 v.revision))
    (v.cfg.protection = .clear → starts s { keys with prot := some .clear } v.faults) ∧
    (v.cfg.protection = .scrambled →
      (v.cfg.periodMode = .clearWindow →
        let asks := early ∧ v.keys.current = none
        starts (s.askedIf asks n v.keys.phase)
          { keys with prot := some .window, timer := full, windowSpent := false, requestMark := decide asks }
          v.faults) ∧
      (v.cfg.periodMode = .repeating → v.keys.current.isSome = true →
        let asks := early ∧ v.keys.next = none
        starts (s.askedIf asks n v.keys.phase.other)
          { keys with prot := some .scrambled, timer := full, requestMark := decide asks } v.faults) ∧
      (v.cfg.periodMode = .hold → v.keys.current.isSome = true →
        starts s { keys with prot := some .scrambled } v.faults) ∧
      (v.cfg.periodMode ≠ .clearWindow → v.keys.current = none →
        starts ({ s with ctlAttn := s.ctlAttn || v.faults.entries.isEmpty }.asked n v.keys.phase true)
          { keys with prot := some .blackout } (v.faults.raise .blackout s.frameNumber)))

/-- Without a service SVC_START, SVC_STOP, its flush form, SVC_RELEASE and SVC_QUERY are refused NO_SERVICE; in a state
that does not allow them the first four are refused BUSY, and a start that does not fit is refused CAPACITY (R7, R13,
R14, R16 to R19). An SVC_STOP request whose flush byte is above 1, which a frame alone can carry, is refused RANGE after the
NO_SERVICE and BUSY tests, for a DRAINING service too (R193). Nothing but the port changes. -/
def Obligations.ServiceCommandRefusals : Prop :=
  (∀ (s : State) (b : Byte), s.atRest →
      (s.named b = none →
        exec (.svcStart b) s = .next (s.answered .control 0x03 3 [b, 0, 0, 0]) ∧
        exec (.svcStop b) s = .next (s.answered .control 0x04 3 [b, 0, 0, 0]) ∧
        exec (.svcStopFlush b) s = .next (s.answered .control 0x04 3 [b, 0, 0, 0]) ∧
        exec (.svcRelease b) s = .next (s.answered .control 0x05 3 [b, 0, 0, 0]) ∧
        exec (.svcQuery b) s = .next (s.answered .control 0x06 3 [b, 0, 0, 0])) ∧
      ∀ (n : Svc) (v : Service), b.toNat = n.val → s.svc n = some v →
        let fields := b :: v.activity.byte :: be16 v.revision
        (v.activity ≠ .defined →
          exec (.svcStart b) s = .next (s.answered .control 0x03 1 fields) ∧
          exec (.svcRelease b) s = .next (s.answered .control 0x05 1 fields)) ∧
        (v.activity = .defined → ¬ s.fits n v.cfg →
          exec (.svcStart b) s = .next (s.answered .control 0x03 5 fields)) ∧
        (v.activity = .defined ∨ v.activity = .draining →
          exec (.svcStop b) s = .next (s.answered .control 0x04 1 fields)) ∧
        (v.activity = .defined → exec (.svcStopFlush b) s = .next (s.answered .control 0x04 1 fields))) ∧
  (∀ (s : State) (b flush : Byte) (extra : List Byte),
      let received := (Request.svcStop b flush).message ++ extra
      s.atRest → 1 < flush.toNat → s.control.rx = [] → (∀ m ∈ s.control.held, m.length ≤ received.length) →
      let read := { s with control :=
        { held := none, take := s.control.take, rx := []
          dataOut := ((s.control.held.getD []) ++ List.replicate received.length 0xFF#8).take received.length } }
      (s.named b = none →
        exec (.portFrameEnd .control received) s = .next (read.answered .control 0x04 3 [b, 0, 0, 0])) ∧
      ∀ (n : Svc) (v : Service), b.toNat = n.val → s.svc n = some v →
        exec (.portFrameEnd .control received) s
          = .next (read.answered .control 0x04 (if v.activity = .defined then 1 else 2)
              (b :: v.activity.byte :: be16 v.revision)))

/-- SVC_STOP without flush of a RUNNING or STALLED service (R16): DEFINED at once, with the effects of R6, when there is
no open picture, no cell, no marker and no withdrawal; DRAINING otherwise. -/
def Obligations.SvcStopDrainsOrEnds : Prop :=
  ∀ (s : State) (n : Svc) (b : Byte) (v : Service),
    s.atRest → b.toNat = n.val → s.svc n = some v → v.activity = .running ∨ v.activity = .stalled →
    let drained := v.picture = none ∧ v.queue.read = v.queue.write ∧ v.queue.marker = none ∧ v.queue.withdrawal = none
    (drained →
      exec (.svcStop b) s
        = .next ((s.withDefined n v).answered .control 0x04 0 (b :: 1 :: be16 v.revision))) ∧
    (¬ drained →
      exec (.svcStop b) s
        = .next ((s.putSvc n (some { v with activity := .draining })).answered .control 0x04 0
            (b :: 4 :: be16 v.revision)))

/-- SVC_STOP with flush of a participant (R17): DEFINED at once with the effects of R6, the ring emptied by setting the
read pointer to the write pointer, marker and withdrawal dropped, the open picture's bank user released without a
marker, and the credit of a record of the service in the Packer's hands returned, in the flush itself
(notes/assumptions/18.md). -/
def Obligations.SvcStopFlushDropsEverything : Prop :=
  ∀ (s : State) (n : Svc) (b : Byte) (v : Service),
    s.atRest → b.toNat = n.val → s.svc n = some v → v.activity ≠ .defined →
    let held := s.packer.any fun w => w.record.service == n
    exec (.svcStopFlush b) s
      = .next (({ s.withDefined n
            { v with queue := { v.queue with read := v.queue.write, marker := none, withdrawal := none } } with
          quant := match v.picture with
            | some p => s.quant.dropUser p.bank
            | none => s.quant
          packer := if held then none else s.packer
          credits := if held then s.credits + 1 else s.credits
          clCredit := if held then s.clCredit + 1 else s.clCredit } : State).answered .control 0x04 0
            (b :: 1 :: be16 v.revision))

/-- SVC_RELEASE of a DEFINED service empties its entry, removes its request, and lets CTL_ATTN fall when no other fault
list and no check attention hold it (R18, R149, R176). -/
def Obligations.SvcReleaseEmptiesTheEntry : Prop :=
  ∀ (s : State) (n : Svc) (b : Byte) (v : Service),
    s.atRest → b.toNat = n.val → s.svc n = some v → v.activity = .defined →
    ∃ t : State, exec (.svcRelease b) s = .next (t.answered .control 0x05 0 [b, 0, 0, 0]) ∧ t.svc n = none ∧
      (∀ m, m ≠ n → t.svc m = s.svc m) ∧ (t.requests = s.requests.filter fun r => r.service != n) ∧
      t.keyAttn = !t.requests.isEmpty ∧
      (s.checks.attention = false → (∀ m, ∀ w ∈ t.svc m, w.faults.entries = []) → t.ctlAttn = false) ∧
      (s.checks.attention = true ∨ (∃ m, ∃ w ∈ t.svc m, w.faults.entries ≠ []) → t.ctlAttn = s.ctlAttn) ∧
      t = { s with services := t.services, requests := t.requests, keyAttn := t.keyAttn, ctlAttn := t.ctlAttn }

/-! ## Weight banks, multiplex, RESET, faults and checks -/

/-- WEIGHTS_LOAD (R44): BUSY while the inactive bank has users, then RANGE for a weight outside 4 to 64; otherwise both
tables go into the inactive bank, which becomes the active one. MUX_SET (R97): BUSY while any service is a participant,
then RANGE; otherwise the three values are in force at once and an adoption is pending, the frame structure
unchanged. -/
def Obligations.WeightsLoadAndMuxSetOutcomes : Prop :=
  (∀ (s : State) (intra predicted : WeightTable), s.atRest →
      let users := match s.quant.active with
        | .zero => s.quant.users1
        | .one => s.quant.users0
      let ranged := ∀ w ∈ intra.toList ++ predicted.toList, 4 ≤ w.toNat ∧ w.toNat ≤ 64
      let counts := [byteOf s.quant.users0, byteOf s.quant.users1]
      (0 < users →
        exec (.weightsLoad intra predicted) s
          = .next (s.answered .control 0x10 1 (s.quant.active.byte :: counts))) ∧
      (users = 0 → ¬ ranged →
        exec (.weightsLoad intra predicted) s
          = .next (s.answered .control 0x10 2 (s.quant.active.byte :: counts))) ∧
      (users = 0 → ranged →
        exec (.weightsLoad intra predicted) s
          = .next (match s.quant.active with
            | .zero => ({ s with quant :=
                  { s.quant with bank1 := { intra := intra, predicted := predicted }, active := .one } } : State).answered
                .control 0x10 0 (1 :: counts)
            | .one => ({ s with quant :=
                  { s.quant with bank0 := { intra := intra, predicted := predicted }, active := .zero } } : State).answered
                .control 0x10 0 (0 :: counts)))) ∧
  (∀ (s : State) (f : Half) (l a : Byte), s.atRest →
      let idle := ∀ n, ∀ v ∈ s.svc n, v.activity = .defined
      let ranged := 64 ≤ f.toNat ∧ f.toNat ≤ 1024 ∧ 2 ≤ l.toNat ∧ l.toNat ≤ 32 ∧ 1 ≤ a.toNat ∧ a.toNat ≤ 16
      let standing := be16Of s.inForce.f ++ [byteOf s.inForce.l, byteOf s.inForce.a] ++ be16Of (s.inForce.f - s.inForce.l)
        ++ [if s.adoptionPending then 1 else 0]
      (¬ idle → exec (.muxSet f l a) s = .next (s.answered .control 0x18 1 standing)) ∧
      (idle → ¬ ranged → exec (.muxSet f l a) s = .next (s.answered .control 0x18 2 standing)) ∧
      (idle → ranged →
        exec (.muxSet f l a) s
          = .next (({ s with inForce := { f := f.toNat, l := l.toNat, a := a.toNat }, adoptionPending := true } :
              State).answered .control 0x18 0 (be16 f ++ [l, a] ++ be16Of (f.toNat - l.toNat) ++ [1]))))

/-- Two laws of the part. A weight bank whose users count is above 0 is not written, by any command but those of the supply
and the reset line (R44). A key slot that holds a key and is the current phase is not replaced by KEY_LOAD (R150). -/
def Obligations.UsedBanksAndCurrentKeysStand : Prop :=
  (∀ (c : Instr) (s t : State) (b : Bank),
      s.frameDue = [] → isLineCommand c = false → exec c s = .next t → 0 < s.quant.users b →
      t.quant.bank b = s.quant.bank b) ∧
  (∀ (s t : State) (b pb : Byte) (expected : Half) (key : BitVec 64) (payload : List Byte) (m : Svc) (v : Service),
      s.frameDue = [] → exec (.keyLoad b pb expected key payload) s = .next t → s.svc m = some v →
      v.keys.current.isSome = true →
      ∃ w, t.svc m = some w ∧ w.keys.phase = v.keys.phase ∧ w.keys.current = v.keys.current)

/-- RESET (R20, R40, R57, R74, R95, R111, R130, R157, R165, R173, R177, R189): no services, no records with every
credit returned, users counts 0, an empty due list, pointer 0, no requests; the multiplex, the bank contents, the frames,
the check record and the key port go on, and CTL_ATTN stays only for check attention. The pool's cells are kept and the
returns on CL_CREDIT are counted by the model's choice (notes/assumptions/9.md, 13.md). -/
def Obligations.ResetEmptiesTheServices : Prop :=
  ∀ (s : State), s.atRest →
    exec .reset s
      = .next (({ s with
          startCause := .command
          services := Vector.replicate 16 none
          ingestQueue := []
          credits := 64
          clCredit := s.clCredit + (s.ingestQueue.length + if s.packer.isSome then 1 else 0)
          packer := none
          quant := { s.quant with users0 := 0, users1 := 0 }
          dueList := []
          rrPointer := 0
          requests := []
          keyAttn := false
          ctlAttn := s.checks.attention } : State).answered .control 0x21 0 (2 :: be32 s.frameNumber))

/-- FAULTS_READ answers a service's list without changing it (R181). -/
def Obligations.FaultsReadReportsTheList : Prop :=
  ∀ (s : State) (b : Byte), s.atRest →
    (s.named b = none → exec (.faultsRead b) s = .next (s.answered .control 0x28 3 [b])) ∧
    ∀ (n : Svc) (v : Service), b.toNat = n.val → s.svc n = some v →
      exec (.faultsRead b) s
        = .next (s.answered .control 0x28 0
            ([b, byteOf v.faults.entries.length, if v.faults.more then 1 else 0]
              ++ v.faults.entries.flatMap fun e => e.code.byte :: (be32 e.firstFrame ++ [byteOf e.count])))

/-- FAULTS_ACK answers the list as FAULTS_READ does, empties it, and lets CTL_ATTN fall if it was the last thing that held
the line (R176, R182). CHECK_CLEAR clears flags, detail and check attention but not the mode, and lets CTL_ATTN fall when
every fault list is empty; CHECK_MODE sets the mode, or is refused RANGE above 3 (R187, R188). -/
def Obligations.FaultsAckAndCheckCommands : Prop :=
  (∀ (s : State) (b : Byte), s.atRest →
      (s.named b = none → exec (.faultsAck b) s = .next (s.answered .control 0x29 3 [b])) ∧
      ∀ (n : Svc) (v : Service), b.toNat = n.val → s.svc n = some v →
        let emptied := s.putSvc n (some { v with faults := { entries := [], more := false } })
        let others := s.checks.attention = true ∨ ∃ m, m ≠ n ∧ ∃ w ∈ s.svc m, w.faults.entries ≠ []
        let fields := [b, byteOf v.faults.entries.length, if v.faults.more then 1 else 0]
          ++ v.faults.entries.flatMap fun e => e.code.byte :: (be32 e.firstFrame ++ [byteOf e.count])
        (others → exec (.faultsAck b) s = .next (emptied.answered .control 0x29 0 fields)) ∧
        (¬ others →
          exec (.faultsAck b) s = .next (({ emptied with ctlAttn := false } : State).answered .control 0x29 0 fields))) ∧
  (∀ (s : State), s.atRest →
      (∃ fields, exec .checkClear s
        = .next (({ s with
            checks := { flags := 0, detail := none, attention := false, mode := s.checks.mode }
            ctlAttn := if s.faulted = [] then false else s.ctlAttn } : State).answered .control 0x2B 0 fields) ∧
          exec .checkRead s = .next (s.answered .control 0x2A 0 fields)) ∧
      ∀ m : Byte,
        (3 < m.toNat →
          exec (.checkMode m) s
            = .next (s.answered .control 0x2C 2 [byteOf s.checks.mode, if s.checks.attention then 1 else 0])) ∧
        (m.toNat ≤ 3 →
          exec (.checkMode m) s
            = .next (({ s with checks := { s.checks with mode := m.toNat } } : State).answered .control 0x2C 0
                [m, if s.checks.attention then 1 else 0])))

/-- CHECK_READ is always answered OK with the flags, the detail or its placeholders, check attention and the mode, and
changes nothing (R186, R194). -/
def Obligations.CheckReadReportsTheRecord : Prop :=
  ∀ (s : State), s.atRest →
    exec .checkRead s
      = .next (s.answered .control 0x2A 0
          (s.checks.flags ::
            (match s.checks.detail with
              | none => [0, 0, 0xFF, 0, 0, 0, 0, 0xFF, 0xFF]
              | some d =>
                [1, byteOf d.cls.precedence, match d.service with
                  | some n => byteOf n.val
                  | none => 0xFF]
                  ++ be32 d.frame ++ match d.cellIndex with
                    | some i => be16Of i
                    | none => [0xFF, 0xFF])
            ++ [if s.checks.attention then 1 else 0, byteOf s.checks.mode]))

/-! ## Queries -/

/-- WEIGHTS_QUERY is always answered OK with the active bank, both users counts and the tables of both banks, and
changes nothing (R46). -/
def Obligations.WeightsQueryReportsTheBanks : Prop :=
  ∀ (s : State), s.atRest →
    exec .weightsQuery s
      = .next (s.answered .control 0x11 0
          ([match s.quant.active with
              | .zero => 0
              | .one => 1,
            byteOf s.quant.users0, byteOf s.quant.users1]
            ++ s.quant.bank0.intra.toList ++ s.quant.bank0.predicted.toList ++ s.quant.bank1.intra.toList
            ++ s.quant.bank1.predicted.toList))

/-- STATUS, MUX_QUERY and SVC_QUERY report the state as it stands in the order of R194 and change nothing (R19, R99, R175).
The frames to the next period start are the least k of 1 to 16 for which the number the k-th next frame start gives is
a multiple of A. That before the first frame start after power or line the count takes the number that stands for that
start is the model's reading (notes/assumptions/22.md). -/
def Obligations.ControlQueriesReport : Prop :=
  (∀ (s : State), s.atRest →
      exec .status s
        = .next (s.answered .control 0x20 0
            (s.startCause.byte :: (be32 s.frameNumber
              ++ [if s.checks.attention then 1 else 0, s.quant.active.byte,
                byteOf (allServices.filter fun n => (s.svc n).any fun v => v.activity != .defined).length,
                byteOf s.faulted.length]
              ++ s.faulted.map fun n => byteOf n.val))) ∧
      ∃ k : Nat,
        exec .muxQuery s
          = .next (s.answered .control 0x19 0
              (be16Of s.inForce.f ++ [byteOf s.inForce.l, byteOf s.inForce.a] ++ be16Of (s.inForce.f - s.inForce.l)
                ++ be16Of ((s.inForce.f - s.inForce.l) * s.inForce.a) ++ [if s.adoptionPending then 1 else 0]
                ++ (if s.adoptionPending then
                    be16Of s.frameStruct.f ++ [byteOf s.frameStruct.l, byteOf s.frameStruct.a]
                  else be16Of s.inForce.f ++ [byteOf s.inForce.l, byteOf s.inForce.a])
                ++ [byteOf (allServices.filter fun n => (s.svc n).any fun v => v.activity != .defined).length]
                ++ be16Of (s.participants.map fun x => x.2.cfg.committed s.inForce.a).sum ++ [byteOf k])) ∧
          (let a := if s.adoptionPending then s.inForce.a else s.frameStruct.a
            let number (j : Nat) : Word := s.frameNumber + BitVec.ofNat 32 (if s.frameBegun then j else j - 1)
            1 ≤ a → a ≤ 16 →
              1 ≤ k ∧ k ≤ 16 ∧ (number k).toNat % a = 0 ∧ ∀ j, 1 ≤ j → j < k → (number j).toNat % a ≠ 0)) ∧
  (∀ (s : State) (n : Svc) (b : Byte) (v : Service), s.atRest → b.toNat = n.val → s.svc n = some v →
      exec (.svcQuery b) s
        = .next (s.answered .control 0x06 0
            ([b, v.activity.byte] ++ be16 v.revision ++ cfgBytes v.cfg.toBlock ++ [v.keys.phase.byte]
              ++ be16 v.keys.generation
              ++ [if v.activity = .defined then 0xFF else match v.keys.prot with
                  | some p => p.byte
                  | none => 0xFF]
              ++ be16Of ((v.queue.write + 2 ^ v.cfg.k - v.queue.read) % 2 ^ v.cfg.k)
              ++ (match v.queue.marker with
                | none => [0, 0, 0, 0, 0]
                | some m => 1 :: (be16 m.firstNumber ++ [if m.cut then 1 else 0, byteOf m.count]))
              ++ [v.ingest.state.byte]
              ++ (if v.activity = .defined then List.replicate 7 0 else
                be16Of v.alloc.grant ++ be16Of v.alloc.deficit ++ [if v.alloc.fallback then 1 else 0]
                  ++ be16Of v.alloc.complexity)
              ++ [if v.faults.entries = [] then 0 else 1])))

/-- KEY_STATUS and REQUESTS_READ report and change nothing (R155, R156): a CLEAR_WINDOW service with its window spent is
reported as REPEAT, and the requests stand in order of entry with the generation and phase of their service. That a
KEY_STATUS refused with FORMAT carries the service alone is the model's choice (notes/assumptions/30.md). -/
def Obligations.KeyQueriesReport : Prop :=
  ∀ (s : State), s.atRest →
    (exec .requestsRead s
      = .next (s.answered .key 0x44 0
          (byteOf s.requests.length :: s.requests.flatMap fun r =>
            [byteOf r.service.val, r.phase.byte, if r.urgent then 1 else 0]
              ++ match s.svc r.service with
                | some v => be16 v.keys.generation ++ [v.keys.phase.byte]
                | none => [0, 0, 0]))) ∧
    ∀ (b sel : Byte),
      (s.named b = none → exec (.keyStatus b sel) s = .next (s.answered .key 0x43 3 [b])) ∧
      ∀ (n : Svc) (v : Service), b.toNat = n.val → s.svc n = some v →
        (1 < sel.toNat → exec (.keyStatus b sel) s = .next (s.answered .key 0x43 9 [b])) ∧
        (sel.toNat ≤ 1 →
          exec (.keyStatus b sel) s
            = .next (s.answered .key 0x43 0
                (b :: (be16 v.keys.generation
                  ++ [v.keys.phase.byte,
                    if v.cfg.periodMode = .clearWindow ∧ v.keys.windowSpent = true then 0 else v.cfg.periodMode.byte,
                    if v.activity = .defined then 0xFF else match v.keys.prot with
                      | some p => p.byte
                      | none => 0xFF]
                  ++ (match v.keys.slot0 with
                    | some x => [1, byteOf x.sent]
                    | none => [0, 0])
                  ++ (match v.keys.slot1 with
                    | some x => [1, byteOf x.sent]
                    | none => [0, 0])
                  ++ be16Of (if sel = 0 then v.cfg.p * v.cfg.c
                    else if v.timerRuns then (v.keys.timer.count - 1) * v.cfg.p + v.keys.timer.prescale else 0)
                  ++ [if v.activity = .defined then 0 else byteOf v.keys.deferral,
                    if v.keys.stamp.isSome then 1 else 0]
                  ++ be32 (v.keys.stamp.getD 0)))))

/-! ## Key commands -/

/-- An accepted KEY_LOAD stores key and payload with sent count 0, raises the generation, removes the request for that
phase, and sets the entitlement countdown of a participant to 1 when the slot is the next one (R149, R151). Into the
empty current slot of a service in BLACKOUT it makes the service SCRAMBLED with cell sequence number 0; except under
HOLD, the timer is loaded, the window spent mark is set, and a request lead of at least p × c asks for the empty next slot
at once and marks the request (R144, R148). Phase, stamp and countdown then stay, and so does the rest of the entry, but
for a DRAINING service that BLACKOUT alone kept from DEFINED: that the exit completes its drain is the model's choice
(R5; notes/assumptions/25.md). The answer carries generation, phase and presence (R150). -/
def Obligations.KeyLoadStoresTheKeyAndEndsBlackout : Prop :=
  ∀ (s : State) (n : Svc) (b : Byte) (ph : Phase) (key : BitVec 64) (payload : List Byte) (v : Service),
    s.atRest → b.toNat = n.val → s.svc n = some v → v.cfg.protection = .scrambled →
    1 ≤ payload.length → payload.length ≤ 92 → (ph = v.keys.phase → v.keys.current = none) →
    let ends := v.activity ≠ .defined ∧ ph = v.keys.phase ∧ v.keys.prot = some .blackout
    let keys : KeyCtx := { v.keys.setSlot ph (some { key := key, payload := payload, sent := 0 }) with
      generation := v.keys.generation + 1
      countdown := if v.activity ≠ .defined ∧ ph ≠ v.keys.phase then 1 else v.keys.countdown }
    let left := s.requests.filter fun r => !(r.service == n && r.phase == ph)
    let served : State := { s with requests := left, keyAttn := !left.isEmpty }
    let asks := v.cfg.periodMode ≠ .hold ∧ v.cfg.p * v.cfg.c ≤ v.cfg.lead ∧ v.keys.next = none
    let answer (u : State) : State := u.answered .key 0x40 0
      (b :: (be16 (v.keys.generation + 1)
        ++ [v.keys.phase.byte, byteOf (keys.slot0.isSome.toNat + 2 * keys.slot1.isSome.toNat)]))
    exec (.keyLoad b ph.byte v.keys.generation key payload) s
      = .next (answer
          (if ends then
            (served.askedIf asks n v.keys.phase.other).putDrained n
              { v with
                keys :=
                  if v.cfg.periodMode = .hold then { keys with prot := some .scrambled }
                  else
                    { keys with
                      prot := some .scrambled
                      timer := { prescale := v.cfg.p, count := v.cfg.c }
                      windowSpent := true
                      requestMark := decide asks }
                cellSeq := 0 }
          else served.putSvc n (some { v with keys := keys })))

/-- KEY_LOAD's and KEY_CLEAR's refusals in their order (R150): NO_SERVICE, NOT_SCRAMBLED, STALE, FORMAT, and for a load
SLOT_IN_USE; the answer carries generation, phase and presence as they stand. Nothing but the port changes. -/
def Obligations.KeyCommandRefusals : Prop :=
  ∀ (s : State) (b pb : Byte) (expected : Half) (key : BitVec 64) (payload : List Byte), s.atRest →
    (s.named b = none →
      exec (.keyLoad b pb expected key payload) s = .next (s.answered .key 0x40 3 [b]) ∧
      exec (.keyClear b pb expected) s = .next (s.answered .key 0x41 3 [b])) ∧
    ∀ (n : Svc) (v : Service), b.toNat = n.val → s.svc n = some v →
      let fields := b :: (be16 v.keys.generation
        ++ [v.keys.phase.byte, byteOf (v.keys.slot0.isSome.toNat + 2 * v.keys.slot1.isSome.toNat)])
      let loadAnswers (code : Byte) :=
        exec (.keyLoad b pb expected key payload) s = .next (s.answered .key 0x40 code fields)
      let clearAnswers (code : Byte) := exec (.keyClear b pb expected) s = .next (s.answered .key 0x41 code fields)
      (v.cfg.protection = .clear → loadAnswers 8 ∧ clearAnswers 8) ∧
      (v.cfg.protection = .scrambled → expected ≠ v.keys.generation → loadAnswers 4 ∧ clearAnswers 4) ∧
      (v.cfg.protection = .scrambled → expected = v.keys.generation →
        (1 < pb.toNat ∨ payload.length = 0 ∨ 92 < payload.length → loadAnswers 9) ∧
        (1 < pb.toNat → clearAnswers 9) ∧
        (pb.toNat ≤ 1 → 1 ≤ payload.length → payload.length ≤ 92 → pb = v.keys.phase.byte →
          v.keys.current.isSome = true → loadAnswers 7))

/-- An accepted KEY_CLEAR empties the slot and raises the generation; a participant that loses its current key so enters
BLACKOUT, with the fault and the urgent request; a service in BLACKOUT stays there and repeats its urgent request, as
the model reads R153 for either slot (notes/assumptions/17.md); in every other case nothing else changes (R143, R148,
R153). The answer carries generation, phase and presence as they stand after the clear (R150). -/
def Obligations.KeyClearEmptiesTheSlot : Prop :=
  ∀ (s : State) (n : Svc) (b : Byte) (ph : Phase) (v : Service),
    s.atRest → b.toNat = n.val → s.svc n = some v → v.cfg.protection = .scrambled →
    let lost := (v.keys.prot = some .window ∨ v.keys.prot = some .scrambled ∨ v.keys.prot = some .deferred ∨
      v.keys.prot = some .late) ∧ ph = v.keys.phase ∧ v.keys.current.isSome = true
    let keys : KeyCtx := { v.keys.setSlot ph none with generation := v.keys.generation + 1 }
    let answer (u : State) : State := u.answered .key 0x41 0
      (b :: (be16 (v.keys.generation + 1)
        ++ [v.keys.phase.byte, byteOf (keys.slot0.isSome.toNat + 2 * keys.slot1.isSome.toNat)]))
    let cleared := s.putSvc n (some { v with keys := keys })
    (lost →
      exec (.keyClear b ph.byte v.keys.generation) s
        = .next (answer ((({ s with ctlAttn := s.ctlAttn || v.faults.entries.isEmpty } : State).putSvc n (some
            { v with
              keys := { keys with prot := some .blackout, deferral := 0 }
              faults := v.faults.raise .blackout s.frameNumber })).asked n v.keys.phase true))) ∧
    (v.keys.prot = some .blackout →
      exec (.keyClear b ph.byte v.keys.generation) s = .next (answer (cleared.asked n v.keys.phase true))) ∧
    (¬ lost → v.keys.prot ≠ some .blackout →
      exec (.keyClear b ph.byte v.keys.generation) s = .next (answer cleared))

/-- KEY_PURGE empties both slots of every service and raises every generation; every SCRAMBLED participant is then in
BLACKOUT with an urgent request for its current phase, the fault raised for those that enter it; the answer counts
them (R143, R147, R154). Nothing else of any entry changes. -/
def Obligations.KeyPurgeEmptiesEverySlot : Prop :=
  ∀ (s : State), s.atRest →
    let placed (v : Service) : Bool := v.activity != .defined && v.cfg.protection == .scrambled
    let enters (v : Service) : Bool := placed v && v.keys.prot != some .blackout
    let asked := allServices.foldl
      (fun u n => match s.svc n with
        | some v => if placed v then u.asked n v.keys.phase true else u
        | none => u) s
    ∃ t : State, exec .keyPurge s = .next t ∧
      t.key = { s.key with
        take := s.key.take + 1
        held := some (message 0xC2 [0, s.key.take + 1,
          byteOf (allServices.filter fun n => (s.svc n).any placed).length]) } ∧
      (∀ n, t.svc n = (s.svc n).map fun v =>
        let keys : KeyCtx := { v.keys with slot0 := none, slot1 := none, generation := v.keys.generation + 1 }
        if enters v then
          { v with
            keys := { keys with prot := some .blackout, deferral := 0 }
            faults := v.faults.raise .blackout s.frameNumber }
        else { v with keys := keys }) ∧
      t = { s with
        services := t.services, requests := asked.requests, keyAttn := asked.keyAttn, key := t.key
        ctlAttn := s.ctlAttn || allServices.any fun n => (s.svc n).any fun v => enters v && v.faults.entries.isEmpty }

/-! ## The contribution link and the Packer -/

/-- A burst laid out by R192 is read as the record it carries: no bit of a field or of a packed coefficient is
dropped. -/
def Obligations.BurstReadsBackItsRecord : Prop :=
  ∀ (kind svc : Byte) (n : Svc) (body : List Byte), svc.toNat = n.val → body.length ≤ 193 →
    let front := kind :: svc :: (be16Of body.length ++ body)
    let burst := front ++ be16 (crc16 front)
    (∀ (number : Half) (intra : Bool) (stripes blocks : BitVec 7) (junk1 junk2 : BitVec 1) (complexity : Half),
      kind = 0x01 →
      body = be16 number ++ [if intra then 0 else 1, (junk1 ++ stripes : Byte), (junk2 ++ blocks : Byte)]
        ++ be16 complexity →
      readBurst burst
        = some (.picHead n number (if intra then .intra else .predicted) stripes.toNat blocks.toNat
            complexity.toNat)) ∧
    (∀ data : List (List (BitVec 12 × BitVec 12)),
      kind = 0x02 → 1 ≤ data.length → data.length ≤ 8 → (∀ d ∈ data, d.length = 8) →
      body = byteOf data.length :: (data.flatMap fun d => d.flatMap fun x =>
        [x.1.extractLsb' 4 8, (x.1.extractLsb' 0 4 ++ x.2.extractLsb' 8 4 : Byte), x.2.extractLsb' 0 8]) →
      readBurst burst = some (.blocks n (data.map fun d => d.flatMap fun x => [x.1, x.2]))) ∧
    (∀ number : Half, kind = 0x03 → body = be16 number → readBurst burst = some (.picTail n number))

/-- The outcomes of an arrival in their order (R22, R36): LINK_OVERRUN without credit; LINK_CRC for a burst that cannot
be read, and which bursts those are (R192); UNROUTED for a service that is no participant; admission otherwise, which takes a credit, appends the record
and clears the service's silence counter and expired mark. -/
def Obligations.LinkArrivalOutcomes : Prop :=
  (crc16 [0x31, 0x32, 0x33, 0x34, 0x35, 0x36, 0x37, 0x38, 0x39] = 0x29B1 ∧
    ∀ burst : List Byte, burstUnreadable burst ↔ readBurst burst = none) ∧
  ∀ (s : State) (burst : List Byte), s.atRest →
    let returned := { s with clCredit := s.clCredit + 1 }
    (s.credits = 0 →
      exec (.linkMessageArrival burst) s = .next (recordCheck .linkOverrun (burstService burst) none s)) ∧
    (0 < s.credits → burstUnreadable burst →
      exec (.linkMessageArrival burst) s = .next (recordCheck .linkCrc (burstService burst) none returned)) ∧
    ∀ r, 0 < s.credits → readBurst burst = some r →
      ((∀ v ∈ s.svc r.service, v.activity = .defined) →
        exec (.linkMessageArrival burst) s = .next (recordCheck .unrouted (burstService burst) none returned)) ∧
      ∀ v, s.svc r.service = some v → v.activity ≠ .defined →
        exec (.linkMessageArrival burst) s
          = .next (({ s with credits := s.credits - 1, ingestQueue := s.ingestQueue ++ [r] } : State).putSvc r.service
              (some { v with ingest := { v.ingest with silence := 0, expired := false } }))

/-- PIC_HEAD. A valid head for a RUNNING or STALLED service without an open picture opens one (R28, R42, R54, R60 to R64,
R82, R102), taken from the queue or, in a later stage, opened by the Packer: shape and latched values recorded, target and initial qs formed from the
grant, the ring length and the statistics, headers written into a start-flagged cell, one user more on the active bank, the
complexity handed over, the record's credit returned; silence counter and expired mark stand
(notes/assumptions/26.md). A stop without flush that comes after the take leaves the head to open its picture (R16, R39;
notes/assumptions/19.md). A head that finds a picture open raises PICTURE_UNCLOSED and begins
the forced close (R26). A head that finds a marker pending and the ring full is abandoned at its open (R91):
QUEUE_OVERFLOW, one picture more in the marker, DISCARDING, but RUNNING and the complexity handed over. Where the ring
has room, any record that finds a marker pending has it appended first as a GAP cell (R89). Stages of work:
notes/assumptions/5.md. -/
def Obligations.PicHeadOpensAPicture : Prop :=
  (∀ (s : State) (n : Svc) (number : Half) (kind : PictureKind) (stripes bps complexity k : Nat) (v : Service),
      let head : Record := .picHead n number kind stripes bps complexity
      s.atRest → s.svc n = some v → v.activity ≠ .defined → v.picture = none →
      v.queue.marker = none → v.queue.withdrawal = none → 1 ≤ stripes → stripes ≤ 68 → 1 ≤ bps → bps ≤ 120 →
      v.cfg.qmin ≤ v.cfg.qmax →
      let grant := if v.alloc.fallback then v.cfg.floor * s.inForce.a else v.alloc.grant
      let base : Nat := match kind with
        | .intra => grant * 736 * 2
        | .predicted => grant * 736
      let bmin := 32 + 6 * stripes + stripes * bps
      let raw : Int := (base : Int) - ((v.ringLength : Int) - (grant : Int)) * 368
      let target := (max ((max (base / 4) bmin : Nat) : Int) (min ((max (2 * base) bmin : Nat) : Int) raw)).toNat
      let q := match v.stats with
        | some st => (st.qavgPrev * st.bitsPrev + target / 2) / target
        | none => v.cfg.qinit
      let qs := max v.cfg.qmin (min v.cfg.qmax q)
      let table := match s.quant.active, kind with
        | .zero, .intra => s.quant.bank0.intra
        | .zero, .predicted => s.quant.bank0.predicted
        | .one, .intra => s.quant.bank1.intra
        | .one, .predicted => s.quant.bank1.predicted
      let pic : OpenPicture :=
        { number := number, kind := kind, stripes := stripes, blocksPerStripe := bps, blocksCoded := 0
          bank := s.quant.active, rndIntra := v.cfg.rndIntra, rndPred := v.cfg.rndPred, saturated := false
          steps := table.toList.map fun w => max 1 ((qs * w.toNat + 8) / 16)
          qinit := v.cfg.qinit, qmin := v.cfg.qmin, qmax := v.cfg.qmax, target := target, qs := qs, qsSum := qs
          bitsSpent := 38, emergency := false
          cell :=
            { start := true
              bits := bitsOf 16 number.toNat ++ [kind == .predicted, s.quant.active == .one] ++ bitsOf 7 stripes
                ++ bitsOf 7 bps ++ bitsOf 6 qs }
          firstCell := .unwritten }
      let opened (queue : List Record) : State :=
        (({ s with
            ingestQueue := queue
            quant := match s.quant.active with
              | .zero => { s.quant with users0 := s.quant.users0 + 1 }
              | .one => { s.quant with users1 := s.quant.users1 + 1 } } : State).putSvc n (some
                { v with
                  activity := if v.activity = .stalled then .running else v.activity
                  ingest := { v.ingest with state := .inPicture pic }
                  alloc := { v.alloc with complexity := max 1 complexity } })).recordDone
      (∀ rest, v.activity ≠ .draining → s.packer = none → s.ingestQueue = head :: rest →
        exec (.picHead (k + 1)) s = .next (opened rest)) ∧
      (s.packer = some { record := head, phase := .opening } →
        exec (.packerRecordWork (k + 1)) s = .next (opened s.ingestQueue))) ∧
  (∀ (s : State) (n : Svc) (number : Half) (kind : PictureKind) (stripes bps complexity k : Nat) (rest : List Record)
      (v : Service) (p : OpenPicture),
      let head : Record := .picHead n number kind stripes bps complexity
      s.atRest → s.packer = none → s.ingestQueue = head :: rest → s.svc n = some v →
      v.activity = .running ∨ v.activity = .stalled → v.ingest.state = .inPicture p → v.queue.marker = none →
      v.queue.withdrawal = none →
      exec (.picHead k) s
        = exec (.packerRecordWork k)
            (({ s with
              ingestQueue := rest, packer := some { record := head, phase := .closing false }
              ctlAttn := s.ctlAttn || v.faults.entries.isEmpty } : State).putSvc n (some
                { v with faults := v.faults.raise .pictureUnclosed s.frameNumber }))) ∧
  (∀ (s : State) (n : Svc) (number : Half) (kind : PictureKind) (stripes bps complexity k : Nat) (rest : List Record)
      (v : Service) (m : Marker),
      s.atRest → s.packer = none → s.ingestQueue = .picHead n number kind stripes bps complexity :: rest →
      s.svc n = some v → v.activity = .running ∨ v.activity = .stalled → v.picture = none →
      v.queue.marker = some m → v.queue.withdrawal = none → v.ringLength = 2 ^ v.cfg.k - 1 →
      1 ≤ stripes → stripes ≤ 68 → 1 ≤ bps → bps ≤ 120 →
      exec (.picHead (k + 1)) s
        = .next (({ s with ingestQueue := rest, ctlAttn := s.ctlAttn || v.faults.entries.isEmpty } : State).putSvc n
            (some
              { v with
                activity := .running
                queue := { v.queue with marker := some { m with count := min 255 (m.count + 1) } }
                ingest := { v.ingest with state := .discarding }
                alloc := { v.alloc with complexity := max 1 complexity }
                faults := v.faults.raise .queueOverflow s.frameNumber })).recordDone) ∧
  (∀ (s : State) (n : Svc) (r : Record) (k : Nat) (rest : List Record) (v : Service) (m : Marker),
      s.atRest → s.packer = none → s.ingestQueue = r :: rest → r.service = n → s.svc n = some v →
      v.activity ≠ .defined → v.queue.marker = some m → v.queue.withdrawal = none → v.ringLength ≠ 2 ^ v.cfg.k - 1 →
      let row := match r with
        | .picHead .. => Instr.picHead k
        | .blocks .. => Instr.blocks k
        | .picTail .. => Instr.picTail k
      exec row s = exec row (s.gapAppended n v m))

/-- Records that code nothing (R24, R26, R27, R31, R34, R39), judged at their take: a record of a service that is no participant, a BLOCKS or
PIC_TAIL in DISCARDING, a stray BLOCKS, PIC_TAIL or PIC_HEAD, and a PIC_HEAD of a bad format, after the close it forced too; each has its credit
returned. A head whose service has become DEFINED before it opens its picture is consumed silently, as the model reads R24
(notes/assumptions/19.md). -/
def Obligations.RecordsWithoutAPicture : Prop :=
  ∀ (s : State) (n : Svc) (r : Record) (rest : List Record) (k : Nat),
    s.atRest → r.service = n →
    (s.packer = none ∧ s.ingestQueue = r :: rest ∨
      s.packer = some { record := r, phase := .opening } ∧ s.ingestQueue = rest) →
    let row := if s.packer ≠ none then Instr.packerRecordWork (k + 1) else match r with
      | .picHead .. => Instr.picHead k
      | .blocks .. => Instr.blocks k
      | .picTail .. => Instr.picTail k
    let passed := ({ s with ingestQueue := rest } : State).recordDone
    let faulted (v : Service) (code : FaultCode) :=
      ({ passed with ctlAttn := s.ctlAttn || v.faults.entries.isEmpty } : State).putSvc n
        (some { v with faults := v.faults.raise code s.frameNumber })
    ((∀ v ∈ s.svc n, v.activity = .defined) → exec row s = .next passed) ∧
    ∀ v, s.svc n = some v → v.activity ≠ .defined → v.queue.marker = none → v.queue.withdrawal = none →
      (∀ number kind stripes bps c, r = .picHead n number kind stripes bps c → s.packer ≠ none ∨ v.activity ≠ .draining →
        v.picture = none → ¬ (1 ≤ stripes ∧ stripes ≤ 68 ∧ 1 ≤ bps ∧ bps ≤ 120) →
        exec row s
          = .next (faulted { v with ingest := { v.ingest with state := .discarding } } .pictureFormat)) ∧
      (s.packer = none →
        (∀ data, r = .blocks n data → v.ingest.state = .discarding → exec row s = .next passed) ∧
        (∀ data, r = .blocks n data → v.ingest.state = .idle → exec row s = .next (faulted v .strayInput)) ∧
        (∀ number, r = .picTail n number → v.ingest.state = .discarding →
          exec row s = .next (passed.putSvc n (some { v with ingest := { v.ingest with state := .idle } }))) ∧
        (∀ number, r = .picTail n number → v.ingest.state = .idle → exec row s = .next (faulted v .strayInput)) ∧
        (∀ number p, r = .picTail n number → v.picture = some p → number ≠ p.number →
          exec row s = .next (faulted v .strayInput)) ∧
        (∀ number kind stripes bps c, r = .picHead n number kind stripes bps c → v.activity = .draining →
          exec row s = .next (faulted v .strayInput)))

/-- A block of a BLOCKS record (R29, R48, R49, R51, R65 to R68, R81, R82, R85): where it begins a stripe, the qs is the
latched qmax under the emergency mark or with fewer than 4 free cells, which sets the mark, and otherwise the clamped qs of
the bands; it is added to the qs sum, gives the steps and is written as a header of 6 bits. The block's code follows, the
saturation mark is set by a saturated level, and a cell that fills is appended in the middle of the record, or overflows
a full ring. An excess block is dropped, and the first of a record raises PICTURE_EXCESS (R30). The work goes on with
the rest of the record, or ends with its last block; BLOCKS takes a record and then works on it as PACKER_RECORD_WORK does,
stage by stage (notes/assumptions/5.md). -/
def Obligations.BlockIsCodedIntoThePicture : Prop :=
  (∀ (s : State) (n : Svc) (v : Service) (p : OpenPicture) (b : Block) (more : List Block),
      s.atRest → s.svc n = some v → v.activity ≠ .defined → v.ingest.state = .inPicture p → v.queue.marker = none →
      v.queue.withdrawal = none → p.blocksCoded < p.stripes * p.blocksPerStripe → p.cell.bits.length < 736 →
      p.steps.length = 16 → (∀ step ∈ p.steps, 1 ≤ step) → p.rndIntra ≤ 4 → p.rndPred ≤ 4 → p.qmin ≤ p.qmax →
      let begins := p.blocksCoded ≠ 0 ∧ p.blocksCoded % p.blocksPerStripe = 0
      let due := p.target * (p.blocksCoded / p.blocksPerStripe) / p.stripes
      let forced := p.emergency = true ∨ 2 ^ v.cfg.k - 1 - v.ringLength < 4
      let banded :=
        if due * 12 ≤ p.bitsSpent * 8 then p.qs + 4
        else if due * 9 < p.bitsSpent * 8 then p.qs + 2
        else if p.bitsSpent * 8 < due * 7 then p.qs - 1
        else p.qs
      let qs := if forced then p.qmax else max p.qmin (min p.qmax banded)
      let table := match p.bank, p.kind with
        | .zero, .intra => s.quant.bank0.intra
        | .zero, .predicted => s.quant.bank0.predicted
        | .one, .intra => s.quant.bank1.intra
        | .one, .predicted => s.quant.bank1.predicted
      let steps := if begins then table.toList.map fun w => max 1 ((qs * w.toNat + 8) / 16) else p.steps
      let header := if begins then bitsOf 6 qs else []
      let rnd := match p.kind with
        | .intra => p.rndIntra
        | .predicted => p.rndPred
      let magnitudes :=
        List.zipWith (fun (step : Nat) (c : BitVec 12) => (c.toInt.natAbs + step * rnd / 8) / step) steps b
      let levels := List.zipWith (fun (m : Nat) (c : BitVec 12) => c.toInt.sign * ((min 255 m : Nat) : Int)) magnitudes b
      let pic := { p with
        qs := if begins then qs else p.qs
        qsSum := if begins then p.qsSum + qs else p.qsSum
        emergency := if begins then decide forced else p.emergency
        steps := steps
        saturated := p.saturated || magnitudes.any fun m => 255 < m
        blocksCoded := p.blocksCoded + 1 }
      let coded := s.written n v pic (header ++ blockCode levels)
      (∀ (rest : List Record) (k : Nat), s.packer = none → s.ingestQueue = .blocks n [b] :: rest →
        exec (.blocks (k + 1)) s = .next ({ coded with ingestQueue := rest } : State).recordDone) ∧
      ∀ data excess, s.packer = some { record := .blocks n data, phase := .coding (b :: more) excess } →
        exec (.packerRecordWork 1) s
          = .next (if more = [] then coded.recordDone
              else { coded with packer := some { record := .blocks n data, phase := .coding more excess } })) ∧
  (∀ (s : State) (n : Svc) (v : Service) (p : OpenPicture) (b : Block) (more data : List Block) (excess : Bool),
      s.atRest → s.svc n = some v → v.ingest.state = .inPicture p → p.stripes * p.blocksPerStripe ≤ p.blocksCoded →
      s.packer = some { record := .blocks n data, phase := .coding (b :: more) excess } →
      let told := if excess then s
        else ({ s with ctlAttn := s.ctlAttn || v.faults.entries.isEmpty } : State).putSvc n (some
          { v with faults := v.faults.raise .pictureExcess s.frameNumber })
      exec (.packerRecordWork 1) s
        = .next (if more = [] then told.recordDone
            else { told with packer := some { record := .blocks n data, phase := .coding more true } })) ∧
  (∀ (s : State) (n : Svc) (v : Service) (p : OpenPicture) (data : List Block) (rest : List Record) (k : Nat),
      s.atRest → s.packer = none → s.ingestQueue = .blocks n data :: rest → s.svc n = some v →
      v.activity ≠ .defined → v.ingest.state = .inPicture p → v.queue.marker = none → v.queue.withdrawal = none →
      exec (.blocks k) s
        = exec (.packerRecordWork k)
            { s with ingestQueue := rest, packer := some { record := .blocks n data, phase := .coding data false } }) ∧
  (∀ (s t : State) (k : Nat), s.atRest → exec (.packerRecordWork 1) s = .next t →
      exec (.packerRecordWork (k + 1)) s = exec (.packerRecordWork k) t)

/-- The close of a picture (R26, R32, R43, R71, R78, R83). A block that never arrived is coded empty, with the header of
the stripe it begins under the qs that stands. At the end the partial cell is appended with its valid bits if it
holds any, PICTURE_SHORT is raised if a block was coded empty and LEVEL_SATURATED if the mark is set, the statistics are
replaced, the bank user released, the state is IDLE, and a DRAINING service that the close leaves with nothing to send
becomes DEFINED (R4), except in BLACKOUT (R5, R143). After a close by the picture's own tail the credit is
returned; a head that forced the close is judged by R27 and R28 next. PIC_TAIL takes a record and then works on it stage by stage
(notes/assumptions/5.md). -/
def Obligations.PicTailClosesThePicture : Prop :=
  (∀ (s : State) (n : Svc) (v : Service) (p : OpenPicture) (short : Bool),
      s.atRest → s.svc n = some v → v.activity ≠ .defined → v.ingest.state = .inPicture p → v.queue.withdrawal = none →
      p.blocksCoded = p.stripes * p.blocksPerStripe → (p.cell.bits = [] ∨ v.ringLength ≠ 2 ^ v.cfg.k - 1) →
      let faults1 := if short then v.faults.raise .pictureShort s.frameNumber else v.faults
      let kept (queue : List Record) : State := { s with
        ingestQueue := queue
        pool := if p.cell.bits = [] then s.pool
          else s.pool.write v.queue.write
            { kind := .picture, service := n, start := p.cell.start, validBits := p.cell.bits.length
              payload := payloadOfBits p.cell.bits }
        quant := s.quant.dropUser p.bank
        ctlAttn := s.ctlAttn || ((short || p.saturated) && v.faults.entries.isEmpty) }
      let closed (queue : List Record) : State := (kept queue).putDrained n
        { v with
          queue := if p.cell.bits = [] then v.queue else { v.queue with write := v.onward v.queue.write }
          ingest := { v.ingest with state := .idle }
          stats := some { bitsPrev := p.bitsSpent, qavgPrev := p.qsSum / p.stripes }
          faults := if p.saturated then faults1.raise .levelSaturated s.frameNumber else faults1 }
      (∀ (rest : List Record) (k : Nat), short = false → v.queue.marker = none → s.packer = none →
        s.ingestQueue = .picTail n p.number :: rest →
        exec (.picTail (k + 1)) s = .next (closed rest).recordDone) ∧
      (∀ (number : Half) (k : Nat), s.packer = some { record := .picTail n number, phase := .closing short } →
        exec (.packerRecordWork (k + 1)) s = .next (closed s.ingestQueue).recordDone) ∧
      ∀ number kind stripes bps c,
        s.packer = some { record := .picHead n number kind stripes bps c, phase := .closing short } →
        exec (.packerRecordWork 1) s
          = .next { closed s.ingestQueue with
              packer := some { record := .picHead n number kind stripes bps c, phase := .opening } }) ∧
  (∀ (s : State) (n : Svc) (v : Service) (p : OpenPicture) (r : Record) (short : Bool),
      s.atRest → s.svc n = some v → v.activity ≠ .defined → v.ingest.state = .inPicture p →
      p.blocksCoded < p.stripes * p.blocksPerStripe → p.cell.bits.length < 736 → r.service = n →
      s.packer = some { record := r, phase := .closing short } →
      let begins := p.blocksCoded ≠ 0 ∧ p.blocksCoded % p.blocksPerStripe = 0
      let table := match p.bank, p.kind with
        | .zero, .intra => s.quant.bank0.intra
        | .zero, .predicted => s.quant.bank0.predicted
        | .one, .intra => s.quant.bank1.intra
        | .one, .predicted => s.quant.bank1.predicted
      let bits := (if begins then bitsOf 6 p.qs else []) ++ [false]
      (p.cell.bits.length + bits.length < 736 ∨ v.ringLength ≠ 2 ^ v.cfg.k - 1) →
      let pic := { p with
        qsSum := if begins then p.qsSum + p.qs else p.qsSum
        steps := if begins then table.toList.map fun w => max 1 ((p.qs * w.toNat + 8) / 16) else p.steps
        blocksCoded := p.blocksCoded + 1 }
      exec (.packerRecordWork 1) s
        = .next { s.written n v pic bits with packer := some { record := r, phase := .closing true } }) ∧
  (∀ (s : State) (n : Svc) (v : Service) (p : OpenPicture) (rest : List Record) (k : Nat),
      s.atRest → s.packer = none → s.ingestQueue = .picTail n p.number :: rest → s.svc n = some v →
      v.activity ≠ .defined → v.ingest.state = .inPicture p → v.queue.marker = none → v.queue.withdrawal = none →
      exec (.picTail k) s
        = exec (.packerRecordWork k)
            { s with ingestQueue := rest, packer := some { record := .picTail n p.number, phase := .closing false } })

/-- A close that meets a full ring (R33, R43, R84, R85, R87), with the last cell of a picture or with a cell that a missing
block fills: QUEUE_OVERFLOW is raised, after PICTURE_SHORT where the missing blocks were all coded, and the picture is
abandoned, its bank user released and no statistics kept; its withdrawal is in flight, or its loss is counted as a skip at
once when no cell of it was queued (notes/assumptions/20.md). A close by the picture's own tail leaves IDLE and the credit
is returned; a forced close leaves DISCARDING, and the head is judged next, after the withdrawal if one is in flight
(R86). -/
def Obligations.PicTailOverflowsAFullRing : Prop :=
  ∀ (s : State) (n : Svc) (v : Service) (p : OpenPicture) (short : Bool) (k : Nat),
    s.atRest → s.svc n = some v → v.ingest.state = .inPicture p → v.queue.withdrawal = none →
    v.ringLength = 2 ^ v.cfg.k - 1 →
    let begins := p.blocksCoded ≠ 0 ∧ p.blocksCoded % p.blocksPerStripe = 0
    let whole := p.blocksCoded = p.stripes * p.blocksPerStripe ∧ p.cell.bits ≠ []
    let missing := p.blocksCoded < p.stripes * p.blocksPerStripe ∧
      736 ≤ p.cell.bits.length + (if begins then 7 else 1)
    let faults := if short = true ∧ whole then v.faults.raise .pictureShort s.frameNumber else v.faults
    let left (queue : List Record) (st : IngestState) : State :=
      ({ s with
        ingestQueue := queue
        quant := s.quant.dropUser p.bank
        ctlAttn := s.ctlAttn || v.faults.entries.isEmpty } : State).putSvc n (some
          { v with
            queue := v.lossQueue p
            ingest := { v.ingest with state := st }
            faults := faults.raise .queueOverflow s.frameNumber })
    (whole → ∀ rest, short = false → v.activity ≠ .defined → v.queue.marker = none → s.packer = none →
      s.ingestQueue = .picTail n p.number :: rest →
      exec (.picTail (k + 1)) s = .next (left rest .idle).recordDone) ∧
    (whole ∨ missing →
      (∀ number, s.packer = some { record := .picTail n number, phase := .closing short } →
        exec (.packerRecordWork (k + 1)) s = .next (left s.ingestQueue .idle).recordDone) ∧
      ∀ number kind stripes bps c,
        s.packer = some { record := .picHead n number kind stripes bps c, phase := .closing short } →
        exec (.packerRecordWork 1) s
          = .next { left s.ingestQueue .discarding with
              packer := some
                { record := .picHead n number kind stripes bps c
                  phase := if p.firstCell = .unwritten then .opening else .held false } })

/-- One step of a withdrawal (R80, R86 to R88): it ends when the ring is empty, nothing of the picture was queued, or the
tail has come back to its first cell, and then the marker counts the loss, a cut if the first cell was sent; otherwise
the tail cell is removed. A record that the Packer takes while its service's withdrawal is in flight is held, and stays
held until it has ended (R86). Taken up afterwards, it is consumed silently if its service is no participant any more
(R24); otherwise the pending marker is appended first as a GAP cell if the ring has room (R89), and the record is judged:
a BLOCKS or PIC_TAIL in DISCARDING is dropped, the tail leaving IDLE, and in IDLE is stray; a PIC_HEAD is stray if the
service was DRAINING at its take, refused for its format, or opens its picture in the next stage (R26, R27, R31, R34,
R39). That the service state at the take counts for a held head is the model's reading (notes/assumptions/19.md), and that a
withdrawal of a picture without a queued cell ends in one step is its choice (notes/assumptions/20.md). -/
def Obligations.WithdrawalAndHeldRecord : Prop :=
  (∀ (s : State) (n : Svc) (v : Service) (w : Withdrawal),
      s.atRest → s.svc n = some v → v.queue.withdrawal = some w →
      let ends := v.queue.read = v.queue.write ∨ w.firstCell = .unwritten ∨ w.firstCell = .queued v.queue.write
      let marker := match v.queue.marker with
        | none => { firstNumber := w.number, count := 1, cut := match w.firstCell with
            | .sent _ => true
            | .unwritten | .queued _ => false }
        | some m => { m with count := min 255 (m.count + 1) }
      (ends →
        exec (.withdraw n) s
          = .next (s.putSvc n (some
              { v with queue := { v.queue with withdrawal := none, marker := some marker } }))) ∧
      (¬ ends →
        exec (.withdraw n) s
          = .next (s.putSvc n (some
              { v with queue :=
                { v.queue with write :=
                  if v.cfg.base < v.queue.write then v.queue.write - 1 else v.cfg.base + 2 ^ v.cfg.k - 1 } })))) ∧
  (∀ (s : State) (n : Svc) (r : Record) (v : Service) (k : Nat) (rest : List Record),
      s.atRest → s.packer = none → s.ingestQueue = r :: rest → r.service = n → s.svc n = some v →
      v.activity ≠ .defined → v.queue.withdrawal.isSome = true →
      let row := match r with
        | .picHead .. => Instr.picHead k
        | .blocks .. => Instr.blocks k
        | .picTail .. => Instr.picTail k
      exec row s
        = .next { s with
            ingestQueue := rest, packer := some { record := r, phase := .held (v.activity == .draining) } }) ∧
  (∀ (s : State) (n : Svc) (r : Record) (draining : Bool) (k : Nat),
      s.atRest → s.packer = some { record := r, phase := .held draining } → r.service = n →
      ((∀ v ∈ s.svc n, v.activity = .defined) → exec (.heldRecordResume k) s = .next s.recordDone) ∧
      ∀ v, s.svc n = some v → v.activity ≠ .defined →
        let faulted (w : Service) (code : FaultCode) :=
          ({ s.recordDone with ctlAttn := s.ctlAttn || v.faults.entries.isEmpty } : State).putSvc n
            (some { w with faults := v.faults.raise code s.frameNumber })
        let ingest (st : IngestState) : Service := { v with ingest := { v.ingest with state := st } }
        (v.queue.withdrawal.isSome = true → exec (.heldRecordResume k) s = .next s) ∧
        (v.queue.withdrawal = none →
          (∀ m, v.queue.marker = some m → v.ringLength ≠ 2 ^ v.cfg.k - 1 →
            exec (.heldRecordResume k) s = exec (.heldRecordResume k) (s.gapAppended n v m)) ∧
          (v.queue.marker = none ∨ v.ringLength = 2 ^ v.cfg.k - 1 →
            (∀ data, r = .blocks n data →
              (v.ingest.state = .discarding → exec (.heldRecordResume k) s = .next s.recordDone) ∧
              (v.ingest.state = .idle → exec (.heldRecordResume k) s = .next (faulted v .strayInput))) ∧
            (∀ number, r = .picTail n number →
              (v.ingest.state = .discarding →
                exec (.heldRecordResume k) s = .next (s.recordDone.putSvc n (some (ingest .idle)))) ∧
              (v.ingest.state = .idle → exec (.heldRecordResume k) s = .next (faulted v .strayInput))) ∧
            ∀ number kind stripes bps c, r = .picHead n number kind stripes bps c →
              (draining = true → exec (.heldRecordResume k) s = .next (faulted v .strayInput)) ∧
              (draining = false → v.picture = none →
                (1 ≤ stripes ∧ stripes ≤ 68 ∧ 1 ≤ bps ∧ bps ≤ 120 →
                  exec (.heldRecordResume k) s
                    = exec (.packerRecordWork k) { s with packer := some { record := r, phase := .opening } }) ∧
                (¬ (1 ≤ stripes ∧ stripes ≤ 68 ∧ 1 ≤ bps ∧ bps ≤ 120) →
                  exec (.heldRecordResume k) s = .next (faulted (ingest .discarding) .pictureFormat))))))

/-! ## Frame starts and expiries -/

/-- The pull of slot 0 (R35, R98, R112 to R115, R190, R191): the frame's number, the adoption of a pending structure,
the slot index, the 96 bytes of the SYNC cell, and the silence counter of every RUNNING or DRAINING service whose mark
is clear. Rings, records, banks, ports and checks are left as they are. The Key Unit's work for each SCRAMBLED participant
(R134, R135): the countdown steps while a slot holds a key (R145); a timer that runs steps and makes the lead test or
expires (R148); a ready DEFERRED, LATE or HOLD service changes over (R137 to R141), the timer reloaded except under HOLD;
an unready DEFERRED one counts its deferral (R139); BLACKOUT works nothing. That an expiry found here leaves activity and
fault list as they are and stands in frameDue until it is taken is the model's reading (notes/assumptions/6.md), and so is
the request set of a changeover, its old request removed before the reload test asks for the new next slot
(notes/assumptions/16.md); the operands that order the work, and the order in which requests of different services enter
the set, are its choice (notes/assumptions/7.md, notes/assumptions/29.md). -/
def Obligations.FrameStartBeginsTheFrame : Prop :=
  (∀ (s : State) (early order : List Svc), s.atRest → s.slotIndex = 0 →
    ∃ t : State, exec (.frameStart early order) s = .next t ∧
      t.frameNumber = (if s.frameBegun then s.frameNumber + 1 else s.frameNumber) ∧ t.frameBegun = true ∧
      t.frameStruct = (if s.adoptionPending then s.inForce else s.frameStruct) ∧ t.adoptionPending = false ∧
      (2 ≤ t.frameStruct.f → t.slotIndex = 1) ∧
      t.outCell = [0x00, 0x02, 0x48, crc8 [0x00, 0x02, 0x48]] ++ be32 t.frameNumber ++ be16Of t.frameStruct.f
        ++ [byteOf t.frameStruct.l, byteOf t.frameStruct.a, s.quant.active.byte]
        ++ s.quant.bank0.intra.toList ++ s.quant.bank0.predicted.toList ++ s.quant.bank1.intra.toList
        ++ s.quant.bank1.predicted.toList ++ List.replicate 19 0 ∧
      (∀ n, s.svc n = none → t.svc n = none) ∧
      (∀ (n : Svc) (v : Service), s.svc n = some v →
        ∃ w, t.svc n = some w ∧ w.cfg = v.cfg ∧ w.activity = v.activity ∧ w.queue = v.queue ∧
          w.revision = v.revision ∧ w.stats = v.stats ∧ w.contPicture = v.contPicture ∧
          w.contEntitle = v.contEntitle ∧
          w.ingest.state = v.ingest.state ∧ w.faults = v.faults ∧
          ((v.activity = .running ∨ v.activity = .draining) → v.ingest.expired = false →
            (v.ingest.silence + 1 < v.cfg.z →
              w.ingest.silence = v.ingest.silence + 1 ∧ w.ingest.expired = false ∧ .silence n ∉ t.frameDue) ∧
            (v.cfg.z ≤ v.ingest.silence + 1 →
              w.ingest.silence = v.cfg.z ∧ w.ingest.expired = true ∧ .silence n ∈ t.frameDue)) ∧
          (¬ ((v.activity = .running ∨ v.activity = .draining) ∧ v.ingest.expired = false) →
            w.ingest = v.ingest ∧ .silence n ∉ t.frameDue)) ∧
      t = { s with
        services := t.services, frameNumber := t.frameNumber, frameBegun := t.frameBegun
        frameStruct := t.frameStruct, adoptionPending := t.adoptionPending, slotIndex := t.slotIndex
        outCell := t.outCell, requests := t.requests, keyAttn := t.keyAttn, frameDue := t.frameDue }) ∧
  (∀ (s t : State) (early order : List Svc) (n : Svc) (v : Service),
    s.atRest → s.slotIndex = 0 → exec (.frameStart early order) s = .next t → s.svc n = some v →
    let reloads := v.cfg.periodMode = .repeating ∨ (v.cfg.periodMode = .clearWindow ∧ v.keys.windowSpent = true)
    let timed := v.keys.prot = some .window ∨ (v.keys.prot = some .scrambled ∧ reloads)
    let waits := v.keys.prot = some .deferred ∨ v.keys.prot = some .late ∨ (v.keys.prot = some .scrambled ∧ ¬ reloads)
    let ready := ∃ x ∈ v.keys.next, v.cfg.nmin ≤ x.sent
    let counted : KeyCtx :=
      { v.keys with countdown := if v.keys.hasKey then v.keys.countdown - 1 else v.keys.countdown }
    let stepped : PeriodTimer :=
      if v.keys.timer.prescale ≤ 1 then { prescale := v.cfg.p, count := v.keys.timer.count - 1 }
      else { v.keys.timer with prescale := v.keys.timer.prescale - 1 }
    let wanted := if v.keys.prot = some .window then v.keys.phase else v.keys.phase.other
    let asks := stepped.count ≠ 0 ∧ (stepped.count - 1) * v.cfg.p + stepped.prescale = v.cfg.lead ∧
      v.keys.requestMark = false ∧ v.keys.slot wanted = none
    let asksAgain := reloads ∧ v.cfg.p * v.cfg.c ≤ v.cfg.lead
    let ofService (u : State) : List KeyRequest := u.requests.filter fun r => r.service == n
    let keyWork (u : State) : List FrameWork :=
      u.frameDue.filter fun w => w == .period n || w == .window n || w == .deferral n
    ∃ w, t.svc n = some w ∧
      (v.activity = .defined ∨ v.cfg.protection = .clear →
        w.keys = v.keys ∧ w.cellSeq = v.cellSeq ∧ ofService t = ofService s ∧ keyWork t = [] ∧
          .countdown n ∉ t.frameDue) ∧
      (v.activity ≠ .defined → v.cfg.protection = .scrambled →
        (.countdown n ∈ t.frameDue ↔ v.keys.hasKey = true ∧ v.keys.countdown ≤ 1) ∧
        (v.keys.prot = some .blackout →
          w.keys = counted ∧ w.cellSeq = v.cellSeq ∧ ofService t = ofService s ∧ keyWork t = []) ∧
        (timed →
          w.keys = { counted with timer := stepped, requestMark := v.keys.requestMark || decide asks } ∧
          w.cellSeq = v.cellSeq ∧
          ofService t = ofService (s.askedIf asks n wanted) ∧ (asks → t.keyAttn = true) ∧
          keyWork t = if stepped.count ≠ 0 then []
            else if v.keys.prot = some .window then [.window n] else [.period n]) ∧
        (waits → ready →
          w.keys = { counted.setSlot v.keys.phase none with
            phase := v.keys.phase.other, generation := v.keys.generation + 1, stamp := some t.frameNumber
            prot := some .scrambled, deferral := 0, countdown := v.cfg.e
            timer := if reloads then { prescale := v.cfg.p, count := v.cfg.c } else v.keys.timer
            requestMark := if reloads then decide asksAgain else v.keys.requestMark } ∧
          w.cellSeq = 0 ∧ keyWork t = [] ∧
          ofService t = if asksAgain then [{ service := n, phase := v.keys.phase, urgent := false }] else []) ∧
        (waits → ¬ ready →
          w.keys = { counted with
            deferral := if v.keys.prot = some .deferred then v.keys.deferral + 1 else v.keys.deferral } ∧
          w.cellSeq = v.cellSeq ∧ ofService t = ofService s ∧
          keyWork t = if v.keys.prot = some .deferred ∧ v.cfg.dmax ≤ v.keys.deferral + 1 then [.deferral n] else [])))

/-- A silence expiry (R3, R37, R43, R84, R88): INPUT_LOST is raised, a RUNNING service becomes STALLED, a DRAINING one
stays so; an open picture is abandoned into DISCARDING with its bank user released, its withdrawal in flight, or, with
no cell of it in the ring, its loss counted as a skip at once (notes/assumptions/20.md). One that meets the Packer's close
of the picture by its own tail leaves IDLE and the tail to be passed over, and one that meets a forced close leaves the
head to be judged, after the withdrawal if one is in flight; any other work of the Packer stands (R37;
notes/assumptions/18.md). What is left of a record passed over, or of a BLOCKS record whose picture is gone, is dropped and
its credit returned (R31). -/
def Obligations.SilenceExpiryStallsTheService : Prop :=
  (∀ (s : State) (n : Svc) (v : Service),
    s.rstAsserted = false → .silence n ∈ s.frameDue → s.svc n = some v →
    let u := { s with
      frameDue := s.frameDue.erase (.silence n), ctlAttn := s.ctlAttn || v.faults.entries.isEmpty }
    let w := { v with
      activity := if v.activity = .running then .stalled else v.activity
      faults := v.faults.raise .inputLost s.frameNumber }
    (v.picture = none → exec (.silenceExpiry n) s = .next (u.putSvc n (some w))) ∧
    ∀ p, v.ingest.state = .inPicture p → v.queue.withdrawal = none →
      let byTail := match s.packer with
        | some { record := .picTail m _, phase := .closing _ } => m = n
        | _ => False
      let work := match s.packer with
        | some { record := .picTail m number, phase := .closing short } =>
          some { record := .picTail m number, phase := if m = n then .passing else .closing short }
        | some { record := .picHead m number kind stripes bps c, phase := .closing short } =>
          some
            { record := .picHead m number kind stripes bps c
              phase := if m ≠ n then .closing short else if p.firstCell = .unwritten then .opening else .held false }
        | other => other
      let dropped := { u with quant := s.quant.dropUser p.bank, packer := work }
      let left (q : QueueDesc) (st : IngestState) :=
        dropped.putSvc n (some { w with queue := q, ingest := { v.ingest with state := st } })
      (byTail → exec (.silenceExpiry n) s = .next (left (v.lossQueue p) .idle)) ∧
      (¬ byTail → exec (.silenceExpiry n) s = .next (left (v.lossQueue p) .discarding))) ∧
  (∀ (s : State) (w : PackerWork) (k : Nat), s.atRest → s.packer = some w →
    (w.phase = .passing ∨ (∃ rest excess, w.phase = .coding rest excess) ∧
      ∀ v ∈ s.svc w.record.service, v.picture = none) →
    exec (.packerRecordWork (k + 1)) s = .next s.recordDone)

/-- The expiry of a period (R136 to R138): a changeover when the next slot's key has been sent Nmin times, DEFERRED
otherwise, with an urgent request for an empty next slot. The changeover toggles the phase, empties the slot that was
current, raises the generation, stamps the frame, sets cell sequence number and deferral counter to 0, loads the countdown
with E, loads the timer under REPEAT or with the window spent, and removes the service's request; a lead of at least p × c then asks for the
new next slot and marks the request (R148, R149). That the removal comes before the reload test is the model's reading
(notes/assumptions/16.md). -/
def Obligations.PeriodExpiryChangesOverOrDefers : Prop :=
  ∀ (s : State) (n : Svc) (v : Service),
    s.rstAsserted = false → .period n ∈ s.frameDue → s.svc n = some v →
    let ready := ∃ x ∈ v.keys.next, v.cfg.nmin ≤ x.sent
    let timed := v.cfg.periodMode = .repeating ∨ (v.cfg.periodMode = .clearWindow ∧ v.keys.windowSpent = true)
    let asks := timed ∧ v.cfg.p * v.cfg.c ≤ v.cfg.lead
    let left := s.requests.filter fun r => r.service != n
    let taken : State := { s with frameDue := s.frameDue.erase (.period n) }
    (ready →
      exec (.periodExpiry n) s
        = .next ((({ taken with requests := left, keyAttn := !left.isEmpty } : State).askedIf asks n v.keys.phase).putSvc n
            (some
              { v with
                cellSeq := 0
                keys := { v.keys.setSlot v.keys.phase none with
                  phase := v.keys.phase.other
                  generation := v.keys.generation + 1
                  stamp := some s.frameNumber
                  prot := some .scrambled
                  deferral := 0
                  countdown := v.cfg.e
                  timer := if timed then { prescale := v.cfg.p, count := v.cfg.c } else v.keys.timer
                  requestMark := if timed then decide asks else v.keys.requestMark } }))) ∧
    (¬ ready →
      exec (.periodExpiry n) s
        = .next ((if v.keys.next = none then taken.asked n v.keys.phase.other true else taken).putSvc n
            (some { v with keys := { v.keys with prot := some .deferred, deferral := 0 } })))

/-- The end of a window, the countdown's end and the deferral limit (R139, R142, R145): SCRAMBLED under a ready current
key, with the timer loaded and, for a lead of at least p × c and an empty next slot, a request and its mark (R148), or
KEY_LATE, then BLACKOUT, with an urgent request; a due-list entry and a countdown of E; LATE with KEY_LATE. That the window
spent mark stays as it is at an unready end is the model's choice (notes/assumptions/27.md). -/
def Obligations.KeyExpiriesActOnTheService : Prop :=
  ∀ (s : State) (n : Svc) (v : Service), s.rstAsserted = false → s.svc n = some v →
    (.window n ∈ s.frameDue →
      let taken : State := { s with frameDue := s.frameDue.erase (.window n) }
      let asks := v.cfg.p * v.cfg.c ≤ v.cfg.lead ∧ v.keys.next = none
      ((∃ x ∈ v.keys.current, v.cfg.nmin ≤ x.sent) →
        exec (.windowEnd n) s
          = .next ((taken.askedIf asks n v.keys.phase.other).putSvc n (some
              { v with keys := { v.keys with
                prot := some .scrambled
                windowSpent := true
                timer := { prescale := v.cfg.p, count := v.cfg.c }
                requestMark := decide asks } }))) ∧
      (¬ (∃ x ∈ v.keys.current, v.cfg.nmin ≤ x.sent) →
        exec (.windowEnd n) s
          = .next ((({ taken with ctlAttn := s.ctlAttn || v.faults.entries.isEmpty } : State).asked n v.keys.phase
              true).putSvc n (some
                { v with
                  keys := { v.keys with prot := some .blackout, deferral := 0 }
                  faults := (v.faults.raise .keyLate s.frameNumber).raise .blackout s.frameNumber })))) ∧
    (.countdown n ∈ s.frameDue →
      exec (.entitlementCountdownExpiry n) s
        = .next (({ s with
            frameDue := s.frameDue.erase (.countdown n)
            dueList := if n ∈ s.dueList then s.dueList else s.dueList ++ [n] } : State).putSvc n (some
              { v with keys := { v.keys with countdown := v.cfg.e } }))) ∧
    (.deferral n ∈ s.frameDue →
      exec (.deferralLimit n) s
        = .next (({ s with
            frameDue := s.frameDue.erase (.deferral n), ctlAttn := s.ctlAttn || v.faults.entries.isEmpty } :
            State).putSvc n (some
              { v with
                keys := { v.keys with prot := some .late }
                faults := v.faults.raise .keyLate s.frameNumber })))

/-! ## Slots -/

/-- A lead-in slot, and a payload slot without an ENTITLE cell and with no service that has a cell available, carry the NULL
cell, and nothing but the slot index moves, and a due-list entry without a key leaves (R113, R116, R117, R119, R121,
R190). The head of the due list is served in a payload slot
with an ENTITLE cell of the next slot's payload, or the current slot's where the next is empty; the send is counted, and
the entitlement-stream counter advances (R119, R127, R146, R191). -/
def Obligations.NullAndEntitleSlots : Prop :=
  (∀ (s : State) (ecc : EccResult) (left : List Svc), s.atRest → s.slotIndex ≠ 0 →
      ((s.slotIndex < s.frameStruct.l ∧ left = s.dueList) ∨
        (s.frameStruct.l ≤ s.slotIndex ∧ s.dueLeft left ∧ ∀ n, ∀ v ∈ s.svc n, v.nothingToSend)) →
      exec (.slotPull ecc) s
        = .next { s with
            slotIndex := if s.slotIndex + 1 < s.frameStruct.f then s.slotIndex + 1 else 0
            dueList := left
            outCell := [0x20, 0x00, 0x00, 0x43] ++ List.replicate 92 0 }) ∧
  (∀ (s : State) (ecc : EccResult) (n : Svc) (rest : List Svc) (v : Service) (x : KeySlot) (next : Bool),
      s.atRest → s.slotIndex ≠ 0 → s.frameStruct.l ≤ s.slotIndex → s.dueList = n :: rest → s.svc n = some v →
      (if next then v.keys.next = some x else v.keys.next = none ∧ v.keys.current = some x) →
      x.payload.length ≤ 92 →
      let ph := if next then v.keys.phase.other else v.keys.phase
      let header : List Byte :=
        [byteOf (128 + 2 * n.val), byteOf (64 * ph.byte.toNat + 4 * v.contEntitle.toNat + 8 * x.payload.length / 256),
          byteOf (8 * x.payload.length)]
      exec (.slotPull ecc) s
        = .next (({ s with
            slotIndex := if s.slotIndex + 1 < s.frameStruct.f then s.slotIndex + 1 else 0
            dueList := rest
            outCell := header ++ [crc8 header] ++ x.payload ++ List.replicate (92 - x.payload.length) 0 } :
            State).putSvc n (some
              { v with
                contEntitle := v.contEntitle + 1
                keys := v.keys.setSlot ph (some { x with sent := min 255 (x.sent + 1) }) })))

/-- A payload slot that no ENTITLE cell takes serves, from the pointer on, the first service with a cell available and a
deficit, or, where no service has both, the first with a cell available (R117, R119, R121 to R123). Its head cell is
taken (R79, R124, R125): a GAP cell leaves clear; a PICTURE cell leaves clear under CLEAR and WINDOW and scrambled under the
current key in SCRAMBLED, DEFERRED and LATE (R159, R163); a corrected cell records POOL_CORRECTED (R93), and a NULL takes
the place of one that cannot be corrected (R94, R126). A pending marker of an empty ring leaves as a GAP cell (R90). In
every case the pointer and the picture-stream counter move on (R127), and the deficit in the granted case (R108); the
first-cell state becomes sent with the cell it stands for; a DRAINING service left with nothing to send becomes DEFINED
(R4). -/
def Obligations.GrantedServiceSendsItsCell : Prop :=
  ∀ (s : State) (ecc : EccResult) (n : Svc) (v : Service) (j : Nat) (granted : Bool) (left : List Svc),
    s.atRest → s.slotIndex ≠ 0 → s.frameStruct.l ≤ s.slotIndex → s.dueLeft left → s.svc n = some v →
    j < 16 → n = s.rrPointer + Fin.ofNat 16 j →
    (granted = true → 0 < v.alloc.deficit ∧
      ∀ i < j, ∀ u ∈ s.svc (s.rrPointer + Fin.ofNat 16 i), u.alloc.deficit = 0 ∨ u.nothingToSend) →
    (granted = false → (∀ m, ∀ u ∈ s.svc m, u.alloc.deficit = 0 ∨ u.nothingToSend) ∧
      ∀ i < j, ∀ u ∈ s.svc (s.rrPointer + Fin.ofNat 16 i), u.nothingToSend) →
    v.activity ≠ .defined → v.keys.prot ≠ none → v.keys.prot ≠ some .blackout →
    let served (cell : List Byte) : State := { s with
      slotIndex := if s.slotIndex + 1 < s.frameStruct.f then s.slotIndex + 1 else 0
      rrPointer := n + 1
      dueList := left
      outCell := cell }
    let out (kind : Nat) (start : Bool) (second valid : Nat) (payload : BitVec 736) : List Byte :=
      let header := [byteOf (32 * kind + 2 * n.val + start.toNat),
        byteOf (second + 4 * v.contPicture.toNat + valid / 256), byteOf valid]
      header ++ [crc8 header] ++ payloadBytes payload
    let w := { v with
      contPicture := v.contPicture + 1
      alloc := { v.alloc with deficit := if granted then v.alloc.deficit - 1 else v.alloc.deficit } }
    (v.queue.read ≠ v.queue.write →
      let cell := Pool.read s.pool v.queue.read
      cell.service = n → cell.validBits < 1024 →
      let sent (f : FirstCell) : FirstCell := if f = .queued v.queue.read then .sent v.queue.read else f
      let taken := { w with
        queue := { v.queue with
          read := v.onward v.queue.read
          withdrawal := v.queue.withdrawal.map fun x => { x with firstCell := sent x.firstCell } }
        ingest := match v.ingest.state with
          | .inPicture p => { v.ingest with state := .inPicture { p with firstCell := sent p.firstCell } }
          | .idle | .discarding => v.ingest }
      let told (u : State) : State :=
        if ecc = .corrected then recordCheck .poolCorrected (some n) (some v.queue.read) u else u
      (ecc = .uncorrectable →
        exec (.slotPull ecc) s
          = .next ((recordCheck .poolUncorrected (some n) (some v.queue.read)
              (served ([0x20, 0x00, 0x00, 0x43] ++ List.replicate 92 0))).putDrained n taken)) ∧
      (ecc ≠ .uncorrectable → cell.kind = .gap →
        exec (.slotPull ecc) s
          = .next ((told (served (out 3 cell.start 0 cell.validBits cell.payload))).putDrained n taken)) ∧
      (ecc ≠ .uncorrectable → cell.kind = .picture → v.keys.prot = some .clear ∨ v.keys.prot = some .window →
        let second := if v.keys.prot = some .window then 64 * v.keys.phase.byte.toNat else 0
        exec (.slotPull ecc) s
          = .next ((told (served (out 2 cell.start second cell.validBits cell.payload))).putDrained n taken)) ∧
      ∀ x, ecc ≠ .uncorrectable → cell.kind = .picture → v.keys.prot ≠ some .clear → v.keys.prot ≠ some .window →
        v.keys.current = some x →
        exec (.slotPull ecc) s
          = .next ((told (served (out 2 cell.start (128 + 64 * v.keys.phase.byte.toNat) cell.validBits
              (scramblePayload x.key v.cellSeq n cell.payload)))).putDrained n { taken with cellSeq := v.cellSeq + 1 })) ∧
    ∀ m, v.queue.read = v.queue.write → v.queue.marker = some m →
      exec (.slotPull ecc) s
        = .next ((served (out 3 false 0 32
            (payloadOfBytes (be16 m.firstNumber ++ [if m.cut then 1 else 0, byteOf m.count])))).putDrained n
              { w with queue := { v.queue with marker := none } })

/-- A PICTURE cell of a SCRAMBLED-protection service leaves the output unscrambled only while that service is in WINDOW
(R159's law), in any state whose rings and key contexts are in order. -/
def Obligations.ClearPictureCellsOnlyInTheWindow : Prop :=
  ∀ (s t : State) (ecc : EccResult) (n : Svc) (v : Service) (h0 h1 : Byte) (rest : List Byte),
    s.atRest → s.ringsLaw → s.keysLaw → s.slotIndex ≠ 0 → exec (.slotPull ecc) s = .next t →
    t.outCell = h0 :: h1 :: rest → h0.toNat / 32 = 2 → h0.toNat / 2 % 16 = n.val → h1.toNat < 128 →
    s.svc n = some v → v.cfg.protection = .scrambled →
    v.keys.prot = some .window

/-- The keystream of a cell is 23 words made by the recurrence of R162, and scrambling XORs payload word j with keystream
word j (R163); a second pass restores the payload (R164). -/
def Obligations.ScramblingFollowsTheKeystream : Prop :=
  ∀ (key : BitVec 64) (n : Word) (s : Svc) (payload : BitVec 736),
    let hi := key.extractLsb' 32 32
    let lo := key.extractLsb' 0 32
    let state (j : Nat) : Word := (fun x : Word => x * 0x0DE5A0C5#32 + hi)^[j]
      (lo ^^^ n ^^^ BitVec.ofNat 32 (s.val * 0x01010101))
    (∀ j < 23,
      (scramblePayload key n s payload).extractLsb' (32 * (22 - j)) 32
        = payload.extractLsb' (32 * (22 - j)) 32 ^^^ ((state (j + 1)).rotateLeft 11 ^^^ hi)) ∧
    scramblePayload key n s (scramblePayload key n s payload) = payload

/-! ## Coding -/

/-- Steps lie in 1 to 252 and level magnitudes in 0 to 255; a G-code is its zero bits and the number plus one, of the
length R50 gives. A block's code is one 0 for no nonzero level, and otherwise a 1, the count of the nonzero levels less
one, and for each of them its run, its magnitude less one and its sign; it has the length R51 gives, 1 to 282 bits (R47
to R52). -/
def Obligations.CodingStaysInItsBounds : Prop :=
  (∀ qs w : Nat, 1 ≤ qs → qs ≤ 63 → 4 ≤ w → w ≤ 64 → 1 ≤ stepOf qs w ∧ stepOf qs w ≤ 252) ∧
  (∀ (step rnd : Nat) (c : Int), (levelOf step rnd c).natAbs ≤ 255) ∧
  (∀ v : Nat, (gcode v).length = 2 * Nat.log2 (v + 1) + 1 ∧ natOfBits (gcode v) = v + 1 ∧
    (gcode v).take (Nat.log2 (v + 1)) = List.replicate (Nat.log2 (v + 1)) false) ∧
  (∀ levels : List Int,
    let g (x : Nat) : Nat := 2 * Nat.log2 (x + 1) + 1
    let count := levels.countP fun l => l ≠ 0
    let run (i : Nat) : Nat := ((levels.take i).reverse.takeWhile fun l => l = 0).length
    let level (i : Nat) : Int := levels.getD i 0
    let places := (List.range levels.length).filter fun i => level i ≠ 0
    (count = 0 → blockCode levels = [false]) ∧
    (0 < count →
      blockCode levels = true :: (gcode (count - 1) ++ places.flatMap fun i =>
        gcode (run i) ++ gcode ((level i).natAbs - 1) ++ [decide (level i < 0)]) ∧
      (blockCode levels).length
        = 1 + g (count - 1) + (places.map fun i => g (run i) + g ((level i).natAbs - 1) + 1).sum)) ∧
  ∀ levels : List Int, levels.length ≤ 16 → (∀ l ∈ levels, l.natAbs ≤ 255) →
    1 ≤ (blockCode levels).length ∧ (blockCode levels).length ≤ 282

/-- A fault on a fault list (R179) and a check on the check record (R183, R185). -/
def Obligations.FaultsAndChecksAreKept : Prop :=
  (∀ (l : FaultList) (code : FaultCode) (frame : Word),
    ((∃ e ∈ l.entries, e.code = code) →
      l.raise code frame = { l with entries := l.entries.map fun e =>
        if e.code = code then { e with count := min 255 (e.count + 1) } else e }) ∧
    ((∀ e ∈ l.entries, e.code ≠ code) → l.entries.length < 4 →
      l.raise code frame = { l with entries := l.entries ++ [{ code := code, firstFrame := frame, count := 1 }] }) ∧
    ((∀ e ∈ l.entries, e.code ≠ code) → 4 ≤ l.entries.length → l.raise code frame = { l with more := true })) ∧
  ∀ (c : CheckClass) (service : Option Svc) (cell : Option Nat) (s : State),
    let rank : CheckClass → Nat := fun d => match d with
      | .poolUncorrected => 6
      | .linkOverrun => 5
      | .linkCrc => 4
      | .poolCorrected => 3
      | .unrouted => 2
      | .portFormat => 1
    let reports := match s.checks.mode with
      | 0 => false
      | 1 => rank c = 6
      | 2 => 4 ≤ rank c
      | _ => true
    recordCheck c service cell s
      = { s with
          checks :=
            { flags := s.checks.flags ||| BitVec.ofNat 8 (2 ^ (rank c - 1))
              detail :=
                if (∀ d ∈ s.checks.detail, rank d.cls ≤ rank c) then
                  some { cls := c, service := service, frame := s.frameNumber, cellIndex := cell }
                else s.checks.detail
              attention := s.checks.attention || reports
              mode := s.checks.mode }
          ctlAttn := s.ctlAttn || reports }

/-! ## Laws of the part, kept by every step -/

/-- Every law of this part holds after reset. -/
def Obligations.ResetMeetsEveryLaw : Prop :=
  State.reset.creditLaw ∧ State.reset.ctlAttnLaw ∧ State.reset.keyAttnLaw ∧ State.reset.listsLaw ∧
    State.reset.ringsLaw ∧ State.reset.usersLaw ∧ State.reset.faultsLaw ∧ State.reset.keysLaw ∧
    State.reset.capacityLaw ∧ State.reset.frameLaw ∧ State.reset.deficitLaw ∧ State.reset.rateLaw ∧
    State.reset.cellSizeLaw

/-- Credits at the partner, records in the queue and the record in the Packer's hands total 64 after every step (R21). -/
def Obligations.StepKeepsTheCredits : Prop :=
  ∀ s t : State, s.creditLaw → step s = .next t → t.creditLaw

/-- CTL_ATTN and KEY_ATTN stand for their conditions after every step, and requests and due-list entries stay at most
one for each service (R118, R147, R176). -/
def Obligations.StepKeepsTheAttentionLines : Prop :=
  ∀ s t : State, step s = .next t →
    (s.ctlAttnLaw → t.ctlAttnLaw) ∧ (s.keyAttnLaw → t.keyAttnLaw) ∧ (s.listsLaw → t.listsLaw)

/-- The pool keeps its canonical form, regions stay apart, pointers stay in their regions, and every cell that waits in a
ring is one appended for that service (R2, R75, R76). -/
def Obligations.StepKeepsTheRings : Prop :=
  ∀ s t : State, s.ringsLaw → step s = .next t → t.ringsLaw

/-- The users count of each bank is the number of open pictures that took it after every step (R41, R43). -/
def Obligations.StepKeepsTheBankUsers : Prop :=
  ∀ s t : State, s.usersLaw → step s = .next t → t.usersLaw

/-- Fault lists stay lists of at most four different codes, and deficits within their grants (R101, R108, R179). -/
def Obligations.StepKeepsFaultListsAndDeficits : Prop :=
  ∀ s t : State, step s = .next t → (s.faultsLaw → t.faultsLaw) ∧ (s.deficitLaw → t.deficitLaw)

/-- In SCRAMBLED, DEFERRED and LATE the current slot always holds a key, and CLEAR participants are CLEAR (R133,
R161). -/
def Obligations.StepKeepsTheKeyContexts : Prop :=
  ∀ s t : State, s.keysLaw → step s = .next t → t.keysLaw

/-- The participants always fit the allocation period in force, the two copies of the multiplex differ only while an
adoption is pending, and their values and the slot index stay in range (R13, R96, R113). -/
def Obligations.StepKeepsTheMultiplex : Prop :=
  ∀ s t : State, step s = .next t → (s.capacityLaw → t.capacityLaw) ∧ (s.frameLaw → t.frameLaw)

/-- Every stripe's qs lies within the bounds latched at its picture's head (R69), partial cells stay below 736 bits, and
no cell has more than 736 valid bits (R77, R81). -/
def Obligations.StepKeepsRateAndCellBounds : Prop :=
  ∀ s t : State, step s = .next t → (s.rateLaw → t.rateLaw) ∧ (s.cellSizeLaw → t.cellSizeLaw)

/-- No step stops: in a state whose rings and key contexts are in order, every command has a next state (R161: what
the model's one fault stands for does not occur). -/
def Obligations.NoStepStops : Prop :=
  ∀ s : State, s.ringsLaw → s.keysLaw → s.runs

/-- A changeover happens only when the next slot holds a key whose sent count is at least Nmin (R138's law): a command
that leaves a participant with another current phase found such a key. -/
def Obligations.ChangeoverOnlyWhenReady : Prop :=
  ∀ (s t : State) (c : Instr) (n : Svc) (v w : Service),
    isLineCommand c = false → exec c s = .next t → s.svc n = some v → t.svc n = some w → v.activity ≠ .defined →
    w.keys.phase ≠ v.keys.phase →
    ∃ x ∈ v.keys.next, v.cfg.nmin ≤ x.sent

/-- A period start divides the period (R104 to R107): when floors and reserve fit, the grants and the reserve come to
exactly P × A if some participant has demand, and to the floors and the reserve otherwise; each participant has its floor
share and, of the remainder, the floor of its proportional share and one slot more if it is among the largest
remainders, lower numbers first, that the leftover reaches. FRAME_START makes that division with the frame structure of
the new frame when its number is a multiple of A, and no other (R100): once the work of the frame start is done, every
allocation context is the one that the division gives with the services STALLED whose silence expiry went before it
(R103; the operand `early` and the outstanding work are the model's, notes/assumptions/6.md and 7.md). -/
def Obligations.AllocationDividesThePeriod : Prop :=
  (∀ s : State,
    let m := s.frameStruct
    let ps := s.participants
    let reserve := (ps.map fun x => if x.2.cfg.protection = .scrambled then (m.a + x.2.cfg.e - 1) / x.2.cfg.e else 0).sum
    let floors := (ps.map fun x => x.2.cfg.floor * m.a).sum
    let wants (v : Service) := if v.activity = .running then v.cfg.weight * v.alloc.complexity else 0
    let demand := (ps.map fun x => wants x.2).sum
    let remainder := (m.f - m.l) * m.a - reserve - floors
    let leftover := remainder - (ps.map fun x => remainder * wants x.2 / demand).sum
    let before (x y : Svc × Service) : Bool :=
      remainder * wants y.2 % demand < remainder * wants x.2 % demand ||
        (remainder * wants x.2 % demand == remainder * wants y.2 % demand && x.1 < y.1)
    floors + reserve ≤ (m.f - m.l) * m.a →
    let grants := ((allocatePeriod s).participants.map fun x => x.2.alloc.grant).sum
    (0 < demand → grants + reserve = (m.f - m.l) * m.a) ∧ (demand = 0 → grants = floors) ∧
      ∀ (n : Svc) (v : Service), s.svc n = some v → v.activity ≠ .defined →
        ∃ w, (allocatePeriod s).svc n = some w ∧
          (demand = 0 → w.alloc.grant = v.cfg.floor * m.a) ∧
          (0 < demand →
            w.alloc.grant = v.cfg.floor * m.a + remainder * wants v / demand
              + if (ps.filter fun x => before x (n, v)).length < leftover then 1 else 0) ∧
          w.alloc.deficit = w.alloc.grant ∧ w.alloc.fallback = false ∧ w.alloc.complexity = v.alloc.complexity) ∧
  (∀ (s t : State) (early order : List Svc), s.atRest → s.slotIndex = 0 →
    exec (.frameStart early order) s = .next t →
    let first (n : Svc) (v : Service) : Prop := n ∈ early ∧ v.silenceEnds
    let divided := allocatePeriod { s with
      frameStruct := if s.adoptionPending then s.inForce else s.frameStruct
      services := Vector.ofFn fun n => (s.svc n).map fun v =>
        if n ∈ early ∧ v.activity = .running ∧ v.ingest.expired = false ∧ v.cfg.z ≤ v.ingest.silence + 1 then
          { v with activity := .stalled }
        else v }
    let starts := t.frameNumber.toNat % t.frameStruct.a = 0
    ∀ (n : Svc) (v : Service), s.svc n = some v →
      ∃ w x u, t.svc n = some w ∧ (settle t).svc n = some x ∧ divided.svc n = some u ∧
        x.alloc = (if starts then u.alloc else v.alloc) ∧
        ((∀ m, ∀ y ∈ s.svc m, ¬ first m y) → w.alloc = x.alloc))
end

