-- ==== Sys2Proof/Laws/State.lean ====
section
/-! SUPPORT. One lemma per field for each update of the state, and what an entry reads as after an update of another, so
that no later proof unfolds a record update. -/

namespace Sys2Proof.Machine

/-! ## putSvc -/

@[simp] theorem State.putSvc_startCause (s : State) (n : Svc) (v : Option Service) : (s.putSvc n v).startCause = s.startCause := rfl
@[simp] theorem State.putSvc_rstAsserted (s : State) (n : Svc) (v : Option Service) : (s.putSvc n v).rstAsserted = s.rstAsserted := rfl
@[simp] theorem State.putSvc_pool (s : State) (n : Svc) (v : Option Service) : (s.putSvc n v).pool = s.pool := rfl
@[simp] theorem State.putSvc_ingestQueue (s : State) (n : Svc) (v : Option Service) : (s.putSvc n v).ingestQueue = s.ingestQueue := rfl
@[simp] theorem State.putSvc_credits (s : State) (n : Svc) (v : Option Service) : (s.putSvc n v).credits = s.credits := rfl
@[simp] theorem State.putSvc_clCredit (s : State) (n : Svc) (v : Option Service) : (s.putSvc n v).clCredit = s.clCredit := rfl
@[simp] theorem State.putSvc_packer (s : State) (n : Svc) (v : Option Service) : (s.putSvc n v).packer = s.packer := rfl
@[simp] theorem State.putSvc_quant (s : State) (n : Svc) (v : Option Service) : (s.putSvc n v).quant = s.quant := rfl
@[simp] theorem State.putSvc_inForce (s : State) (n : Svc) (v : Option Service) : (s.putSvc n v).inForce = s.inForce := rfl
@[simp] theorem State.putSvc_frameStruct (s : State) (n : Svc) (v : Option Service) : (s.putSvc n v).frameStruct = s.frameStruct := rfl
@[simp] theorem State.putSvc_adoptionPending (s : State) (n : Svc) (v : Option Service) : (s.putSvc n v).adoptionPending = s.adoptionPending := rfl
@[simp] theorem State.putSvc_frameNumber (s : State) (n : Svc) (v : Option Service) : (s.putSvc n v).frameNumber = s.frameNumber := rfl
@[simp] theorem State.putSvc_frameBegun (s : State) (n : Svc) (v : Option Service) : (s.putSvc n v).frameBegun = s.frameBegun := rfl
@[simp] theorem State.putSvc_slotIndex (s : State) (n : Svc) (v : Option Service) : (s.putSvc n v).slotIndex = s.slotIndex := rfl
@[simp] theorem State.putSvc_dueList (s : State) (n : Svc) (v : Option Service) : (s.putSvc n v).dueList = s.dueList := rfl
@[simp] theorem State.putSvc_rrPointer (s : State) (n : Svc) (v : Option Service) : (s.putSvc n v).rrPointer = s.rrPointer := rfl
@[simp] theorem State.putSvc_outCell (s : State) (n : Svc) (v : Option Service) : (s.putSvc n v).outCell = s.outCell := rfl
@[simp] theorem State.putSvc_requests (s : State) (n : Svc) (v : Option Service) : (s.putSvc n v).requests = s.requests := rfl
@[simp] theorem State.putSvc_keyAttn (s : State) (n : Svc) (v : Option Service) : (s.putSvc n v).keyAttn = s.keyAttn := rfl
@[simp] theorem State.putSvc_checks (s : State) (n : Svc) (v : Option Service) : (s.putSvc n v).checks = s.checks := rfl
@[simp] theorem State.putSvc_ctlAttn (s : State) (n : Svc) (v : Option Service) : (s.putSvc n v).ctlAttn = s.ctlAttn := rfl
@[simp] theorem State.putSvc_control (s : State) (n : Svc) (v : Option Service) : (s.putSvc n v).control = s.control := rfl
@[simp] theorem State.putSvc_key (s : State) (n : Svc) (v : Option Service) : (s.putSvc n v).key = s.key := rfl
@[simp] theorem State.putSvc_frameDue (s : State) (n : Svc) (v : Option Service) : (s.putSvc n v).frameDue = s.frameDue := rfl
@[simp] theorem State.putSvc_pending (s : State) (n : Svc) (v : Option Service) : (s.putSvc n v).pending = s.pending := rfl

/-- Entry `m` after entry `n` was replaced. -/
@[simp] theorem State.svc_putSvc (s : State) (n m : Svc) (v : Option Service) :
    (s.putSvc n v).svc m = if m = n then v else s.svc m := by
  unfold State.putSvc State.svc
  by_cases h : m = n
  · subst h; simp
  · have : n.val ≠ m.val := fun hh => h (Fin.ext hh.symm)
    simp [h, this]

/-! ## modSvc -/

/-- Entry `m` after the service of entry `n` was changed. -/
theorem State.svc_modSvc (s : State) (n m : Svc) (f : Service → Service) :
    (s.modSvc n f).svc m = if m = n then (s.svc n).map f else s.svc m := by
  unfold State.modSvc
  cases h : s.svc n with
  | none => by_cases e : m = n <;> simp [e, h]
  | some v => simp

/-- The change of an entry that holds a service. -/
theorem State.modSvc_some (s : State) (n : Svc) (f : Service → Service) (v : Service) (h : s.svc n = some v) :
    s.modSvc n f = s.putSvc n (some (f v)) := by simp [State.modSvc, h]

@[simp] theorem State.modSvc_startCause (s : State) (n : Svc) (f : Service → Service) : (s.modSvc n f).startCause = s.startCause := by
  unfold State.modSvc; split <;> rfl
@[simp] theorem State.modSvc_rstAsserted (s : State) (n : Svc) (f : Service → Service) : (s.modSvc n f).rstAsserted = s.rstAsserted := by
  unfold State.modSvc; split <;> rfl
@[simp] theorem State.modSvc_pool (s : State) (n : Svc) (f : Service → Service) : (s.modSvc n f).pool = s.pool := by
  unfold State.modSvc; split <;> rfl
@[simp] theorem State.modSvc_ingestQueue (s : State) (n : Svc) (f : Service → Service) : (s.modSvc n f).ingestQueue = s.ingestQueue := by
  unfold State.modSvc; split <;> rfl
@[simp] theorem State.modSvc_credits (s : State) (n : Svc) (f : Service → Service) : (s.modSvc n f).credits = s.credits := by
  unfold State.modSvc; split <;> rfl
@[simp] theorem State.modSvc_clCredit (s : State) (n : Svc) (f : Service → Service) : (s.modSvc n f).clCredit = s.clCredit := by
  unfold State.modSvc; split <;> rfl
@[simp] theorem State.modSvc_packer (s : State) (n : Svc) (f : Service → Service) : (s.modSvc n f).packer = s.packer := by
  unfold State.modSvc; split <;> rfl
@[simp] theorem State.modSvc_quant (s : State) (n : Svc) (f : Service → Service) : (s.modSvc n f).quant = s.quant := by
  unfold State.modSvc; split <;> rfl
@[simp] theorem State.modSvc_inForce (s : State) (n : Svc) (f : Service → Service) : (s.modSvc n f).inForce = s.inForce := by
  unfold State.modSvc; split <;> rfl
@[simp] theorem State.modSvc_frameStruct (s : State) (n : Svc) (f : Service → Service) : (s.modSvc n f).frameStruct = s.frameStruct := by
  unfold State.modSvc; split <;> rfl
@[simp] theorem State.modSvc_adoptionPending (s : State) (n : Svc) (f : Service → Service) : (s.modSvc n f).adoptionPending = s.adoptionPending := by
  unfold State.modSvc; split <;> rfl
@[simp] theorem State.modSvc_frameNumber (s : State) (n : Svc) (f : Service → Service) : (s.modSvc n f).frameNumber = s.frameNumber := by
  unfold State.modSvc; split <;> rfl
@[simp] theorem State.modSvc_frameBegun (s : State) (n : Svc) (f : Service → Service) : (s.modSvc n f).frameBegun = s.frameBegun := by
  unfold State.modSvc; split <;> rfl
@[simp] theorem State.modSvc_slotIndex (s : State) (n : Svc) (f : Service → Service) : (s.modSvc n f).slotIndex = s.slotIndex := by
  unfold State.modSvc; split <;> rfl
@[simp] theorem State.modSvc_dueList (s : State) (n : Svc) (f : Service → Service) : (s.modSvc n f).dueList = s.dueList := by
  unfold State.modSvc; split <;> rfl
@[simp] theorem State.modSvc_rrPointer (s : State) (n : Svc) (f : Service → Service) : (s.modSvc n f).rrPointer = s.rrPointer := by
  unfold State.modSvc; split <;> rfl
@[simp] theorem State.modSvc_outCell (s : State) (n : Svc) (f : Service → Service) : (s.modSvc n f).outCell = s.outCell := by
  unfold State.modSvc; split <;> rfl
@[simp] theorem State.modSvc_requests (s : State) (n : Svc) (f : Service → Service) : (s.modSvc n f).requests = s.requests := by
  unfold State.modSvc; split <;> rfl
@[simp] theorem State.modSvc_keyAttn (s : State) (n : Svc) (f : Service → Service) : (s.modSvc n f).keyAttn = s.keyAttn := by
  unfold State.modSvc; split <;> rfl
@[simp] theorem State.modSvc_checks (s : State) (n : Svc) (f : Service → Service) : (s.modSvc n f).checks = s.checks := by
  unfold State.modSvc; split <;> rfl
@[simp] theorem State.modSvc_ctlAttn (s : State) (n : Svc) (f : Service → Service) : (s.modSvc n f).ctlAttn = s.ctlAttn := by
  unfold State.modSvc; split <;> rfl
@[simp] theorem State.modSvc_control (s : State) (n : Svc) (f : Service → Service) : (s.modSvc n f).control = s.control := by
  unfold State.modSvc; split <;> rfl
@[simp] theorem State.modSvc_key (s : State) (n : Svc) (f : Service → Service) : (s.modSvc n f).key = s.key := by
  unfold State.modSvc; split <;> rfl
@[simp] theorem State.modSvc_frameDue (s : State) (n : Svc) (f : Service → Service) : (s.modSvc n f).frameDue = s.frameDue := by
  unfold State.modSvc; split <;> rfl
@[simp] theorem State.modSvc_pending (s : State) (n : Svc) (f : Service → Service) : (s.modSvc n f).pending = s.pending := by
  unfold State.modSvc; split <;> rfl

/-! ## setPort -/

@[simp] theorem State.setPort_startCause (s : State) (p : PortId) (v : Port) : (s.setPort p v).startCause = s.startCause := by
  cases p <;> rfl
@[simp] theorem State.setPort_rstAsserted (s : State) (p : PortId) (v : Port) : (s.setPort p v).rstAsserted = s.rstAsserted := by
  cases p <;> rfl
@[simp] theorem State.setPort_services (s : State) (p : PortId) (v : Port) : (s.setPort p v).services = s.services := by
  cases p <;> rfl
@[simp] theorem State.setPort_pool (s : State) (p : PortId) (v : Port) : (s.setPort p v).pool = s.pool := by
  cases p <;> rfl
@[simp] theorem State.setPort_ingestQueue (s : State) (p : PortId) (v : Port) : (s.setPort p v).ingestQueue = s.ingestQueue := by
  cases p <;> rfl
@[simp] theorem State.setPort_credits (s : State) (p : PortId) (v : Port) : (s.setPort p v).credits = s.credits := by
  cases p <;> rfl
@[simp] theorem State.setPort_clCredit (s : State) (p : PortId) (v : Port) : (s.setPort p v).clCredit = s.clCredit := by
  cases p <;> rfl
@[simp] theorem State.setPort_packer (s : State) (p : PortId) (v : Port) : (s.setPort p v).packer = s.packer := by
  cases p <;> rfl
@[simp] theorem State.setPort_quant (s : State) (p : PortId) (v : Port) : (s.setPort p v).quant = s.quant := by
  cases p <;> rfl
@[simp] theorem State.setPort_inForce (s : State) (p : PortId) (v : Port) : (s.setPort p v).inForce = s.inForce := by
  cases p <;> rfl
@[simp] theorem State.setPort_frameStruct (s : State) (p : PortId) (v : Port) : (s.setPort p v).frameStruct = s.frameStruct := by
  cases p <;> rfl
@[simp] theorem State.setPort_adoptionPending (s : State) (p : PortId) (v : Port) : (s.setPort p v).adoptionPending = s.adoptionPending := by
  cases p <;> rfl
@[simp] theorem State.setPort_frameNumber (s : State) (p : PortId) (v : Port) : (s.setPort p v).frameNumber = s.frameNumber := by
  cases p <;> rfl
@[simp] theorem State.setPort_frameBegun (s : State) (p : PortId) (v : Port) : (s.setPort p v).frameBegun = s.frameBegun := by
  cases p <;> rfl
@[simp] theorem State.setPort_slotIndex (s : State) (p : PortId) (v : Port) : (s.setPort p v).slotIndex = s.slotIndex := by
  cases p <;> rfl
@[simp] theorem State.setPort_dueList (s : State) (p : PortId) (v : Port) : (s.setPort p v).dueList = s.dueList := by
  cases p <;> rfl
@[simp] theorem State.setPort_rrPointer (s : State) (p : PortId) (v : Port) : (s.setPort p v).rrPointer = s.rrPointer := by
  cases p <;> rfl
@[simp] theorem State.setPort_outCell (s : State) (p : PortId) (v : Port) : (s.setPort p v).outCell = s.outCell := by
  cases p <;> rfl
@[simp] theorem State.setPort_requests (s : State) (p : PortId) (v : Port) : (s.setPort p v).requests = s.requests := by
  cases p <;> rfl
@[simp] theorem State.setPort_keyAttn (s : State) (p : PortId) (v : Port) : (s.setPort p v).keyAttn = s.keyAttn := by
  cases p <;> rfl
@[simp] theorem State.setPort_checks (s : State) (p : PortId) (v : Port) : (s.setPort p v).checks = s.checks := by
  cases p <;> rfl
@[simp] theorem State.setPort_ctlAttn (s : State) (p : PortId) (v : Port) : (s.setPort p v).ctlAttn = s.ctlAttn := by
  cases p <;> rfl
@[simp] theorem State.setPort_frameDue (s : State) (p : PortId) (v : Port) : (s.setPort p v).frameDue = s.frameDue := by
  cases p <;> rfl
@[simp] theorem State.setPort_pending (s : State) (p : PortId) (v : Port) : (s.setPort p v).pending = s.pending := by
  cases p <;> rfl

@[simp] theorem State.setPort_svc (s : State) (p : PortId) (v : Port) (m : Svc) : (s.setPort p v).svc m = s.svc m := by
  cases p <;> rfl
@[simp] theorem State.port_setPort (s : State) (p q : PortId) (v : Port) :
    (s.setPort p v).port q = if q = p then v else s.port q := by
  cases p <;> cases q <;> rfl
@[simp] theorem State.setPort_setPort (s : State) (p : PortId) (v w : Port) :
    (s.setPort p v).setPort p w = s.setPort p w := by
  cases p <;> rfl

/-! ## deliver, returnCredit -/

@[simp] theorem State.deliver_startCause (s : State) (c : List Byte) : (s.deliver c).startCause = s.startCause := rfl
@[simp] theorem State.deliver_rstAsserted (s : State) (c : List Byte) : (s.deliver c).rstAsserted = s.rstAsserted := rfl
@[simp] theorem State.deliver_services (s : State) (c : List Byte) : (s.deliver c).services = s.services := rfl
@[simp] theorem State.deliver_pool (s : State) (c : List Byte) : (s.deliver c).pool = s.pool := rfl
@[simp] theorem State.deliver_ingestQueue (s : State) (c : List Byte) : (s.deliver c).ingestQueue = s.ingestQueue := rfl
@[simp] theorem State.deliver_credits (s : State) (c : List Byte) : (s.deliver c).credits = s.credits := rfl
@[simp] theorem State.deliver_clCredit (s : State) (c : List Byte) : (s.deliver c).clCredit = s.clCredit := rfl
@[simp] theorem State.deliver_packer (s : State) (c : List Byte) : (s.deliver c).packer = s.packer := rfl
@[simp] theorem State.deliver_quant (s : State) (c : List Byte) : (s.deliver c).quant = s.quant := rfl
@[simp] theorem State.deliver_inForce (s : State) (c : List Byte) : (s.deliver c).inForce = s.inForce := rfl
@[simp] theorem State.deliver_frameStruct (s : State) (c : List Byte) : (s.deliver c).frameStruct = s.frameStruct := rfl
@[simp] theorem State.deliver_adoptionPending (s : State) (c : List Byte) : (s.deliver c).adoptionPending = s.adoptionPending := rfl
@[simp] theorem State.deliver_frameNumber (s : State) (c : List Byte) : (s.deliver c).frameNumber = s.frameNumber := rfl
@[simp] theorem State.deliver_frameBegun (s : State) (c : List Byte) : (s.deliver c).frameBegun = s.frameBegun := rfl
@[simp] theorem State.deliver_slotIndex (s : State) (c : List Byte) : (s.deliver c).slotIndex = s.slotIndex := rfl
@[simp] theorem State.deliver_dueList (s : State) (c : List Byte) : (s.deliver c).dueList = s.dueList := rfl
@[simp] theorem State.deliver_rrPointer (s : State) (c : List Byte) : (s.deliver c).rrPointer = s.rrPointer := rfl
@[simp] theorem State.deliver_requests (s : State) (c : List Byte) : (s.deliver c).requests = s.requests := rfl
@[simp] theorem State.deliver_keyAttn (s : State) (c : List Byte) : (s.deliver c).keyAttn = s.keyAttn := rfl
@[simp] theorem State.deliver_checks (s : State) (c : List Byte) : (s.deliver c).checks = s.checks := rfl
@[simp] theorem State.deliver_ctlAttn (s : State) (c : List Byte) : (s.deliver c).ctlAttn = s.ctlAttn := rfl
@[simp] theorem State.deliver_control (s : State) (c : List Byte) : (s.deliver c).control = s.control := rfl
@[simp] theorem State.deliver_key (s : State) (c : List Byte) : (s.deliver c).key = s.key := rfl
@[simp] theorem State.deliver_frameDue (s : State) (c : List Byte) : (s.deliver c).frameDue = s.frameDue := rfl
@[simp] theorem State.deliver_pending (s : State) (c : List Byte) : (s.deliver c).pending = s.pending := rfl

@[simp] theorem State.deliver_outCell (s : State) (c : List Byte) : (s.deliver c).outCell = c := rfl

@[simp] theorem State.returnCredit_startCause (s : State) : (s.returnCredit).startCause = s.startCause := rfl
@[simp] theorem State.returnCredit_rstAsserted (s : State) : (s.returnCredit).rstAsserted = s.rstAsserted := rfl
@[simp] theorem State.returnCredit_services (s : State) : (s.returnCredit).services = s.services := rfl
@[simp] theorem State.returnCredit_pool (s : State) : (s.returnCredit).pool = s.pool := rfl
@[simp] theorem State.returnCredit_ingestQueue (s : State) : (s.returnCredit).ingestQueue = s.ingestQueue := rfl
@[simp] theorem State.returnCredit_packer (s : State) : (s.returnCredit).packer = s.packer := rfl
@[simp] theorem State.returnCredit_quant (s : State) : (s.returnCredit).quant = s.quant := rfl
@[simp] theorem State.returnCredit_inForce (s : State) : (s.returnCredit).inForce = s.inForce := rfl
@[simp] theorem State.returnCredit_frameStruct (s : State) : (s.returnCredit).frameStruct = s.frameStruct := rfl
@[simp] theorem State.returnCredit_adoptionPending (s : State) : (s.returnCredit).adoptionPending = s.adoptionPending := rfl
@[simp] theorem State.returnCredit_frameNumber (s : State) : (s.returnCredit).frameNumber = s.frameNumber := rfl
@[simp] theorem State.returnCredit_frameBegun (s : State) : (s.returnCredit).frameBegun = s.frameBegun := rfl
@[simp] theorem State.returnCredit_slotIndex (s : State) : (s.returnCredit).slotIndex = s.slotIndex := rfl
@[simp] theorem State.returnCredit_dueList (s : State) : (s.returnCredit).dueList = s.dueList := rfl
@[simp] theorem State.returnCredit_rrPointer (s : State) : (s.returnCredit).rrPointer = s.rrPointer := rfl
@[simp] theorem State.returnCredit_outCell (s : State) : (s.returnCredit).outCell = s.outCell := rfl
@[simp] theorem State.returnCredit_requests (s : State) : (s.returnCredit).requests = s.requests := rfl
@[simp] theorem State.returnCredit_keyAttn (s : State) : (s.returnCredit).keyAttn = s.keyAttn := rfl
@[simp] theorem State.returnCredit_checks (s : State) : (s.returnCredit).checks = s.checks := rfl
@[simp] theorem State.returnCredit_ctlAttn (s : State) : (s.returnCredit).ctlAttn = s.ctlAttn := rfl
@[simp] theorem State.returnCredit_control (s : State) : (s.returnCredit).control = s.control := rfl
@[simp] theorem State.returnCredit_key (s : State) : (s.returnCredit).key = s.key := rfl
@[simp] theorem State.returnCredit_frameDue (s : State) : (s.returnCredit).frameDue = s.frameDue := rfl
@[simp] theorem State.returnCredit_pending (s : State) : (s.returnCredit).pending = s.pending := rfl

@[simp] theorem State.returnCredit_credits (s : State) : s.returnCredit.credits = s.credits + 1 := rfl
@[simp] theorem State.returnCredit_clCredit (s : State) : s.returnCredit.clCredit = s.clCredit + 1 := rfl
@[simp] theorem State.returnCredit_svc (s : State) (m : Svc) : s.returnCredit.svc m = s.svc m := rfl
@[simp] theorem State.deliver_svc (s : State) (c : List Byte) (m : Svc) : (s.deliver c).svc m = s.svc m := rfl

/-! ## Parts of a service and of a key context -/

@[simp] theorem Service.setIngest_cfg (v : Service) (st : IngestState) : (v.setIngest st).cfg = v.cfg := rfl
@[simp] theorem Service.setIngest_activity (v : Service) (st : IngestState) : (v.setIngest st).activity = v.activity := rfl
@[simp] theorem Service.setIngest_queue (v : Service) (st : IngestState) : (v.setIngest st).queue = v.queue := rfl
@[simp] theorem Service.setIngest_stats (v : Service) (st : IngestState) : (v.setIngest st).stats = v.stats := rfl
@[simp] theorem Service.setIngest_alloc (v : Service) (st : IngestState) : (v.setIngest st).alloc = v.alloc := rfl
@[simp] theorem Service.setIngest_keys (v : Service) (st : IngestState) : (v.setIngest st).keys = v.keys := rfl
@[simp] theorem Service.setIngest_faults (v : Service) (st : IngestState) : (v.setIngest st).faults = v.faults := rfl
@[simp] theorem Service.setIngest_state (v : Service) (st : IngestState) : (v.setIngest st).ingest.state = st := rfl
@[simp] theorem Phase.other_other (ph : Phase) : ph.other.other = ph := by cases ph <;> rfl
@[simp] theorem Phase.other_ne (ph : Phase) : ph.other ≠ ph := by cases ph <;> decide
@[simp] theorem Phase.ne_other (ph : Phase) : ph ≠ ph.other := by cases ph <;> decide
@[simp] theorem phaseOf_byte (ph : Phase) : phaseOf ph.byte = ph := by cases ph <;> rfl

/-- A slot after the slot of a phase was replaced. -/
@[simp] theorem KeyCtx.slot_setSlot (k : KeyCtx) (ph q : Phase) (x : Option KeySlot) :
    (k.setSlot ph x).slot q = if q = ph then x else k.slot q := by
  cases ph <;> cases q <;> rfl
@[simp] theorem KeyCtx.setSlot_phase (k : KeyCtx) (ph : Phase) (x : Option KeySlot) : (k.setSlot ph x).phase = k.phase := by
  cases ph <;> rfl
@[simp] theorem KeyCtx.setSlot_generation (k : KeyCtx) (ph : Phase) (x : Option KeySlot) : (k.setSlot ph x).generation = k.generation := by
  cases ph <;> rfl
@[simp] theorem KeyCtx.setSlot_prot (k : KeyCtx) (ph : Phase) (x : Option KeySlot) : (k.setSlot ph x).prot = k.prot := by
  cases ph <;> rfl
@[simp] theorem KeyCtx.setSlot_windowSpent (k : KeyCtx) (ph : Phase) (x : Option KeySlot) : (k.setSlot ph x).windowSpent = k.windowSpent := by
  cases ph <;> rfl
@[simp] theorem KeyCtx.setSlot_timer (k : KeyCtx) (ph : Phase) (x : Option KeySlot) : (k.setSlot ph x).timer = k.timer := by
  cases ph <;> rfl
@[simp] theorem KeyCtx.setSlot_requestMark (k : KeyCtx) (ph : Phase) (x : Option KeySlot) : (k.setSlot ph x).requestMark = k.requestMark := by
  cases ph <;> rfl
@[simp] theorem KeyCtx.setSlot_deferral (k : KeyCtx) (ph : Phase) (x : Option KeySlot) : (k.setSlot ph x).deferral = k.deferral := by
  cases ph <;> rfl
@[simp] theorem KeyCtx.setSlot_countdown (k : KeyCtx) (ph : Phase) (x : Option KeySlot) : (k.setSlot ph x).countdown = k.countdown := by
  cases ph <;> rfl
@[simp] theorem KeyCtx.setSlot_stamp (k : KeyCtx) (ph : Phase) (x : Option KeySlot) : (k.setSlot ph x).stamp = k.stamp := by
  cases ph <;> rfl

/-! ## A state at rest, and the entry a byte names -/

/-- With nothing outstanding, the outstanding work taken leaves the state as it is. -/
theorem settle_of_nil (s : State) (h : s.frameDue = []) : settle s = s := by
  unfold settle; rw [h]; cases s; simp_all

/-- Out of reset and with nothing outstanding, a command acts on the state as it stands. -/
theorem operate_of_rest (f : State → State) (s : State) (h1 : s.rstAsserted = false) (h2 : s.frameDue = []) :
    operate f s = f s := by
  simp [operate, h1, settle_of_nil s h2]

/-- The entry a byte of value 0 to 15 names. -/
theorem svcIndex_of_toNat (b : Byte) (n : Svc) (h : b.toNat = n.val) : svcIndex b = some n := by
  unfold svcIndex; simp [h]

/-- The service a byte names. -/
theorem named_of_svc (s : State) (b : Byte) (n : Svc) (v : Service) (h : b.toNat = n.val) (hv : s.svc n = some v) :
    s.named b = some (n, v) := by
  unfold State.named; rw [svcIndex_of_toNat b n h]; simp [hv]

end Sys2Proof.Machine
end

