-- ==== Sys2Proof/Laws/Pool.lean ====
section
/-! SUPPORT. The cell pool: a read after a write, and the canonical form that every write keeps. -/

namespace Sys2Proof.Machine

theorem lookupCell_insertCell_same (l : List (Nat × PoolCell)) (x : Nat) (v : PoolCell) :
    lookupCell (insertCell l x v) x = some v := by
  induction l with
  | nil => simp [insertCell, lookupCell]
  | cons y l ih =>
    obtain ⟨a, c⟩ := y
    unfold insertCell
    split
    · simp [lookupCell]
    · split
      · simp [lookupCell]
      · rename_i h1 h2; simp [lookupCell, h2, ih]

theorem lookupCell_insertCell_other (l : List (Nat × PoolCell)) (x y : Nat) (v : PoolCell) (h : y ≠ x) :
    lookupCell (insertCell l x v) y = lookupCell l y := by
  induction l with
  | nil => simp [insertCell, lookupCell, h]
  | cons z l ih =>
    obtain ⟨a, c⟩ := z
    unfold insertCell
    split
    · simp [lookupCell, h]
    · split
      · rename_i h1 h2; subst h2; simp [lookupCell, h]
      · simp [lookupCell, ih]

theorem lookupCell_removeCell_same (l : List (Nat × PoolCell)) (x : Nat) : lookupCell (removeCell l x) x = none := by
  induction l with
  | nil => rfl
  | cons y l ih =>
    obtain ⟨a, c⟩ := y
    by_cases h : a = x
    · simpa [removeCell, h] using ih
    · simpa [removeCell, h, lookupCell, Ne.symm h] using ih

theorem lookupCell_removeCell_other (l : List (Nat × PoolCell)) (x y : Nat) (h : y ≠ x) :
    lookupCell (removeCell l x) y = lookupCell l y := by
  induction l with
  | nil => rfl
  | cons z l ih =>
    obtain ⟨a, c⟩ := z
    by_cases ha : a = x
    · subst ha; simpa [removeCell, lookupCell, h] using ih
    · by_cases hy : y = a
      · subst hy; simp [removeCell, lookupCell, h]
      · simpa [removeCell, lookupCell, ha, hy] using ih

/-- A cell reads back what was written. -/
@[simp] theorem Pool.read_write_same (p : Pool) (x : Nat) (v : PoolCell) : (p.write x v).read x = v := by
  unfold Pool.read Pool.write
  split
  · next h => simp [lookupCell_removeCell_same, h]
  · simp [lookupCell_insertCell_same]

/-- A write leaves every other cell alone. -/
theorem Pool.read_write_other (p : Pool) (x y : Nat) (v : PoolCell) (h : y ≠ x) :
    (p.write x v).read y = p.read y := by
  unfold Pool.read Pool.write
  split
  · simp [lookupCell_removeCell_other _ _ _ h]
  · simp [lookupCell_insertCell_other _ _ _ _ h]

theorem insertCell_mem (l : List (Nat × PoolCell)) (x : Nat) (v : PoolCell) (e : Nat × PoolCell)
    (h : e ∈ insertCell l x v) : e = (x, v) ∨ e ∈ l := by
  induction l with
  | nil => simpa [insertCell] using h
  | cons z l ih =>
    obtain ⟨a, c⟩ := z
    unfold insertCell at h
    split at h
    · simpa using h
    · split at h
      · simp only [List.mem_cons] at h ⊢; tauto
      · simp only [List.mem_cons] at h ⊢
        rcases h with h | h
        · exact .inr (.inl h)
        · exact (ih h).imp id .inr

theorem insertCell_rising (l : List (Nat × PoolCell)) (x : Nat) (v : PoolCell) (h : l.Pairwise fun x y => x.1 < y.1) :
    (insertCell l x v).Pairwise fun x y => x.1 < y.1 := by
  induction l with
  | nil => simp [insertCell]
  | cons z l ih =>
    obtain ⟨a, c⟩ := z
    rw [List.pairwise_cons] at h
    unfold insertCell
    split
    · rename_i hx
      rw [List.pairwise_cons, List.pairwise_cons]
      refine ⟨?_, h⟩
      intro e he
      rcases List.mem_cons.1 he with rfl | he
      · exact hx
      · exact lt_trans hx (h.1 e he)
    · split
      · rename_i hx; subst hx
        exact List.pairwise_cons.2 ⟨h.1, h.2⟩
      · rename_i h1 h2
        refine List.pairwise_cons.2 ⟨?_, ih h.2⟩
        intro e he
        rcases insertCell_mem l x v e he with rfl | he
        · show a < x; omega
        · exact h.1 e he

/-- The list a write leaves holds no cell of another number that it did not hold before. -/
theorem Pool.mem_write (p : Pool) (x : Nat) (v : PoolCell) (e : Nat × PoolCell) (h : e ∈ (p.write x v).cells) :
    e = (x, v) ∨ e ∈ p.cells := by
  unfold Pool.write at h
  split at h
  · exact .inr (List.mem_filter.1 h).1
  · exact insertCell_mem p.cells x v e h

/-- Every write keeps the canonical form of the pool. -/
theorem Pool.wf_write (p : Pool) (x : Nat) (v : PoolCell) (h : p.wf) : (p.write x v).wf := by
  unfold Pool.write
  split
  · exact ⟨h.1.filter _, fun e he => h.2 e (List.mem_filter.1 he).1⟩
  · next hv =>
    refine ⟨insertCell_rising p.cells x v h.1, fun e he => ?_⟩
    rcases insertCell_mem p.cells x v e he with rfl | he
    · exact hv
    · exact h.2 e he

/-- The pool of power-on has the canonical form. -/
theorem Pool.wf_reset : State.reset.pool.wf := ⟨List.Pairwise.nil, fun _ h => nomatch h⟩

end Sys2Proof.Machine
end

