-- ==== Sys2Proof/Laws/Ops.lean ====
section
/-! SUPPORT. For each shared operation one lemma that says what it can do: an equation where the operation has one
outcome, and otherwise the frame of what it leaves alone. -/

namespace Sys2Proof.Machine

/-! ## Faults, requests, DEFINED -/

/-- A fault raised: the list of the service grows as R179 says, and CTL_ATTN is asserted if the list was empty. -/
theorem raiseFault_some (n : Svc) (code : FaultCode) (s : State) (v : Service) (h : s.svc n = some v) :
    raiseFault n code s
      = ({ s with ctlAttn := s.ctlAttn || v.faults.entries.isEmpty } : State).putSvc n
          (some { v with faults := v.faults.raise code s.frameNumber }) := by
  unfold raiseFault; rw [h]
  by_cases hf : v.faults.entries = [] <;> simp [State.putSvc, hf]

/-- A fault for an UNUSED entry changes nothing. -/
theorem raiseFault_none (n : Svc) (code : FaultCode) (s : State) (h : s.svc n = none) : raiseFault n code s = s := by
  simp [raiseFault, h]

/-- Every entry of a request set after an addition is the added request, or stands for a service that had one. -/
theorem insertRequest_mem (set : List KeyRequest) (r e : KeyRequest) (h : e ∈ insertRequest set r) :
    e.service = r.service ∨ e ∈ set := by
  unfold insertRequest at h
  split at h
  · obtain ⟨x, hx, rfl⟩ := List.mem_map.1 h
    split
    · rename_i hs; exact .inl hs
    · exact .inr hx
  · rcases List.mem_append.1 h with h | h
    · exact .inr h
    · simp at h; exact .inl (by rw [h])

/-- An addition leaves an entry of the wanted phase, urgent if the request is. -/
theorem insertRequest_self (set : List KeyRequest) (r : KeyRequest) :
    ∃ e ∈ insertRequest set r, e.service = r.service ∧ e.phase = r.phase ∧ (r.urgent = true → e.urgent = true) := by
  unfold insertRequest
  split
  · rename_i h
    obtain ⟨x, hx, hs⟩ := List.any_eq_true.1 h
    refine ⟨_, List.mem_map.2 ⟨x, hx, rfl⟩, ?_⟩
    rw [if_pos (by simpa using hs)]
    refine ⟨by simpa using hs, rfl, ?_⟩
    intro hu; simp [hu]
  · exact ⟨r, by simp, rfl, rfl, id⟩

/-- The services with a request after an addition: those that had one, and the added one once. -/
theorem insertRequest_services (set : List KeyRequest) (r : KeyRequest) :
    (insertRequest set r).map (fun e => e.service)
      = if set.any (fun e => e.service == r.service) then set.map (fun e => e.service)
        else set.map (fun e => e.service) ++ [r.service] := by
  unfold insertRequest
  split
  · rw [List.map_map]
    apply List.map_congr_left
    intro e _
    simp only [Function.comp]
    split <;> rfl
  · simp

/-- The request set is never empty after an addition. -/
theorem insertRequest_ne_nil (set : List KeyRequest) (r : KeyRequest) : insertRequest set r ≠ [] := by
  obtain ⟨e, he, _⟩ := insertRequest_self set r
  exact List.ne_nil_of_mem he

/-- A request added is the update `asked` names (R147). -/
theorem addRequest_eq (n : Svc) (ph : Phase) (urgent : Bool) (s : State) :
    addRequest n ph urgent s = s.asked n ph urgent := by
  simp only [addRequest, State.asked, insertRequest, List.any_eq_true, beq_iff_eq]
  congr 1
  split
  · apply List.map_congr_left
    intro e _
    split
    · next h => simp [h]
    · rfl
  · rfl

/-- An entry to DEFINED is the state `withDefined` names. -/
theorem enterDefined_eq (n : Svc) (s : State) (v : Service) (h : s.svc n = some v) :
    enterDefined n s = s.withDefined n v := by
  simp only [enterDefined, State.modSvc_some s n _ v h, dropServiceRequests, dropRequests, State.withDefined]
  rfl

/-- The drain test of R4 says once what it does to a service: DEFINED if it drains outside BLACKOUT and the four conditions
hold. -/
theorem drainTest_some (n : Svc) (s : State) (v : Service) (h : s.svc n = some v) :
    drainTest n s =
      if v.activity = .draining ∧ v.keys.prot ≠ some .blackout ∧ v.picture = none ∧ v.queue.read = v.queue.write ∧
          v.queue.marker = none ∧ v.queue.withdrawal = none then
        s.withDefined n v
      else s := by
  simp only [drainTest, h, enterDefined_eq n s v h, Service.drained, Service.ringEmpty, Bool.and_eq_true,
    Option.isNone_iff_eq_none, beq_iff_eq, and_assoc]

/-- The drain test after a service has been left as `w` is the update `putDrained` names. -/
theorem drainTest_putSvc (n : Svc) (s : State) (w : Service) :
    drainTest n (s.putSvc n (some w)) = s.putDrained n w := by
  rw [drainTest_some n _ w (by rw [State.svc_putSvc, if_pos rfl])]
  simp only [State.putDrained, State.withDefined, State.putSvc, Vector.set_set]

/-! ## What an operation on one service leaves alone -/

/-- Between `s` and `t` only entry `n`, the request set and the two attention lines differ. -/
def State.keyWork (n : Svc) (s t : State) : Prop :=
  (∀ m, m ≠ n → t.svc m = s.svc m) ∧
    t = { s with services := t.services, requests := t.requests, keyAttn := t.keyAttn, ctlAttn := t.ctlAttn }

theorem State.keyWork_refl (n : Svc) (s : State) : s.keyWork n s := ⟨fun _ _ => rfl, rfl⟩

theorem State.keyWork_trans {n : Svc} {s t u : State} (h : s.keyWork n t) (k : t.keyWork n u) : s.keyWork n u := by
  refine ⟨fun m hm => (k.1 m hm).trans (h.1 m hm), ?_⟩
  rw [k.2, h.2]

theorem modSvc_keyWork (n : Svc) (f : Service → Service) (s : State) : s.keyWork n (s.modSvc n f) := by
  refine ⟨fun m hm => by rw [State.svc_modSvc]; simp [hm], ?_⟩
  unfold State.modSvc; split <;> rfl

theorem modKeys_keyWork (n : Svc) (f : KeyCtx → KeyCtx) (s : State) : s.keyWork n (s.modKeys n f) :=
  modSvc_keyWork n _ s

theorem addRequest_keyWork (n m : Svc) (ph : Phase) (u : Bool) (s : State) : s.keyWork n (addRequest m ph u s) :=
  ⟨fun _ _ => rfl, rfl⟩

theorem dropRequests_keyWork (n : Svc) (g : KeyRequest → Bool) (s : State) : s.keyWork n (dropRequests g s) :=
  ⟨fun _ _ => rfl, rfl⟩

theorem raiseFault_keyWork (n : Svc) (code : FaultCode) (s : State) : s.keyWork n (raiseFault n code s) := by
  cases h : s.svc n with
  | none => rw [raiseFault_none n code s h]; exact s.keyWork_refl n
  | some v =>
    rw [raiseFault_some n code s v h]
    refine ⟨fun m hm => ?_, rfl⟩
    rw [State.svc_putSvc, if_neg hm]; rfl

theorem requestWanted_keyWork (n : Svc) (s : State) : s.keyWork n (requestWanted n s) := by
  unfold requestWanted
  split
  · split
    · exact State.keyWork_trans (modKeys_keyWork n _ s) (addRequest_keyWork n n _ _ _)
    · exact s.keyWork_refl n
  · exact s.keyWork_refl n

/-- A timer load touches its service, the request set and KEY_ATTN. -/
theorem loadTimer_keyWork (n : Svc) (s : State) : s.keyWork n (loadTimer n s) := by
  unfold loadTimer
  split
  · split
    · exact State.keyWork_trans (modKeys_keyWork n _ s) (requestWanted_keyWork n _)
    · exact modKeys_keyWork n _ s
  · exact s.keyWork_refl n

theorem leadTest_keyWork (n : Svc) (s : State) : s.keyWork n (leadTest n s) := by
  unfold leadTest
  split
  · split
    · exact requestWanted_keyWork n s
    · exact s.keyWork_refl n
  · exact s.keyWork_refl n

/-- A changeover touches its service, the request set and KEY_ATTN. -/
theorem changeover_keyWork (n : Svc) (s : State) : s.keyWork n (changeover n s) := by
  unfold changeover
  split
  · simp only [dropServiceRequests]
    have h (f : Service → Service) (g : KeyRequest → Bool) : s.keyWork n (dropRequests g (s.modSvc n f)) :=
      State.keyWork_trans (modSvc_keyWork n f s) (dropRequests_keyWork n g _)
    split
    · exact State.keyWork_trans (h _ _) (loadTimer_keyWork n _)
    · exact h _ _
  · exact s.keyWork_refl n

theorem requestCurrent_keyWork (n : Svc) (s : State) : s.keyWork n (requestCurrent n s) := by
  unfold requestCurrent
  split
  · exact addRequest_keyWork n n _ _ s
  · exact s.keyWork_refl n

/-- An entry to BLACKOUT touches its service, the request set and the attention lines. -/
theorem enterBlackout_keyWork (n : Svc) (s : State) : s.keyWork n (enterBlackout n s) :=
  State.keyWork_trans (State.keyWork_trans (modKeys_keyWork n _ s) (raiseFault_keyWork n _ _))
    (requestCurrent_keyWork n _)

theorem exitBlackout_keyWork (n : Svc) (s : State) : s.keyWork n (exitBlackout n s) := by
  unfold exitBlackout
  split
  · simp only
    split
    · exact modSvc_keyWork n _ s
    · exact State.keyWork_trans (State.keyWork_trans (modSvc_keyWork n _ s) (modKeys_keyWork n _ _))
        (loadTimer_keyWork n _)
  · exact s.keyWork_refl n

theorem periodExpiry_keyWork (n : Svc) (s : State) : s.keyWork n (periodExpiry n s) := by
  unfold periodExpiry
  split
  · split
    · exact changeover_keyWork n s
    · simp only
      split
      · exact State.keyWork_trans (modKeys_keyWork n _ s) (addRequest_keyWork n n _ _ _)
      · exact modKeys_keyWork n _ s
  · exact s.keyWork_refl n

theorem windowExpiry_keyWork (n : Svc) (s : State) : s.keyWork n (windowExpiry n s) := by
  unfold windowExpiry
  split
  · split
    · exact State.keyWork_trans (modKeys_keyWork n _ s) (loadTimer_keyWork n _)
    · exact State.keyWork_trans (raiseFault_keyWork n _ s) (enterBlackout_keyWork n _)
  · exact s.keyWork_refl n

theorem deferralExpiry_keyWork (n : Svc) (s : State) : s.keyWork n (deferralExpiry n s) :=
  State.keyWork_trans (modKeys_keyWork n _ s) (raiseFault_keyWork n _ _)

/-! ## What the Packer's writing leaves alone -/

/-- Between `s` and `t` only entry `n`, the pool, the bank users and CTL_ATTN differ. -/
def State.cellWork (n : Svc) (s t : State) : Prop :=
  (∀ m, m ≠ n → t.svc m = s.svc m) ∧
    t = { s with services := t.services, pool := t.pool, quant := t.quant, ctlAttn := t.ctlAttn }

theorem State.cellWork_refl (n : Svc) (s : State) : s.cellWork n s := ⟨fun _ _ => rfl, rfl⟩

theorem State.cellWork_trans {n : Svc} {s t u : State} (h : s.cellWork n t) (k : t.cellWork n u) :
    s.cellWork n u := by
  refine ⟨fun m hm => (k.1 m hm).trans (h.1 m hm), ?_⟩
  rw [k.2, h.2]

theorem modSvc_cellWork (n : Svc) (f : Service → Service) (s : State) : s.cellWork n (s.modSvc n f) := by
  refine ⟨fun m hm => by rw [State.svc_modSvc]; simp [hm], ?_⟩
  unfold State.modSvc; split <;> rfl

theorem quant_cellWork (n : Svc) (q : Quantizer) (s : State) : s.cellWork n { s with quant := q } :=
  ⟨fun _ _ => rfl, rfl⟩

theorem raiseFault_cellWork (n : Svc) (code : FaultCode) (s : State) : s.cellWork n (raiseFault n code s) := by
  cases h : s.svc n with
  | none => rw [raiseFault_none n code s h]; exact s.cellWork_refl n
  | some v =>
    rw [raiseFault_some n code s v h]
    refine ⟨fun m hm => ?_, rfl⟩
    rw [State.svc_putSvc, if_neg hm]; rfl

/-- An append to a ring that is not full: the cell at the write pointer, the pointer advanced (R78). -/
theorem appendCell_some (n : Svc) (c : PoolCell) (s t : State) (h : appendCell n c s = some t) :
    ∃ v, s.svc n = some v ∧ v.ringFull = false ∧
      t = ({ s with pool := s.pool.write v.queue.write c } : State).putSvc n
        (some { v with queue := { v.queue with write := v.cfg.advance v.queue.write } }) := by
  unfold appendCell at h
  split at h
  · rename_i v hv
    split at h
    · cases h
    · rename_i hf
      refine ⟨v, hv, by simpa using hf, ?_⟩
      cases h
      exact State.modSvc_some ({ s with pool := s.pool.write v.queue.write c } : State) n _ v hv
  · cases h

/-- An append fails only for a full ring or an UNUSED entry. -/
theorem appendCell_none (n : Svc) (c : PoolCell) (s : State) (h : appendCell n c s = none) :
    ∀ v, s.svc n = some v → v.ringFull = true := by
  intro v hv
  unfold appendCell at h; rw [hv] at h
  simp only at h
  split at h
  · assumption
  · cases h

theorem appendCell_cellWork (n : Svc) (c : PoolCell) (s t : State) (h : appendCell n c s = some t) :
    s.cellWork n t := by
  obtain ⟨v, _, _, rfl⟩ := appendCell_some n c s t h
  refine ⟨fun m hm => ?_, rfl⟩
  rw [State.svc_putSvc, if_neg hm]; rfl

theorem recordLoss_cellWork (n : Svc) (number : Half) (cut : Bool) (s : State) :
    s.cellWork n (recordLoss n number cut s) := modSvc_cellWork n _ s

/-- The marker test touches its service and the pool. -/
theorem markerTest_cellWork (n : Svc) (s : State) : s.cellWork n (markerTest n s) := by
  unfold markerTest
  split
  · split
    · split
      · rename_i s' h
        exact State.cellWork_trans (appendCell_cellWork n _ s s' h) (modSvc_cellWork n _ s')
      · exact s.cellWork_refl n
    · exact s.cellWork_refl n
  · exact s.cellWork_refl n

/-- An abandonment touches its service and the bank users. -/
theorem abandonPicture_cellWork (n : Svc) (s : State) : s.cellWork n (abandonPicture n s) := by
  unfold abandonPicture
  split
  · split
    · simp only
      split
      · exact State.cellWork_trans (State.cellWork_trans (quant_cellWork n _ s) (modSvc_cellWork n _ _))
          (recordLoss_cellWork n _ _ _)
      · exact State.cellWork_trans (State.cellWork_trans (quant_cellWork n _ s) (modSvc_cellWork n _ _))
          (modSvc_cellWork n _ _)
      · exact State.cellWork_trans (State.cellWork_trans (quant_cellWork n _ s) (modSvc_cellWork n _ _))
          (modSvc_cellWork n _ _)
    · exact s.cellWork_refl n
    · exact s.cellWork_refl n
  · exact s.cellWork_refl n

theorem overflow_cellWork (n : Svc) (s : State) : s.cellWork n (overflow n s) :=
  State.cellWork_trans (raiseFault_cellWork n _ s) (abandonPicture_cellWork n _)

theorem modPicture_cellWork (n : Svc) (f : OpenPicture → OpenPicture) (s : State) :
    s.cellWork n (s.modPicture n f) := modSvc_cellWork n _ s

theorem appendPictureCell_cellWork (n : Svc) (start : Bool) (valid : Nat) (bits : List Bool) (s t : State)
    (h : appendPictureCell n start valid bits s = some t) : s.cellWork n t := by
  unfold appendPictureCell at h
  split at h
  · split at h
    · rename_i s' h'
      cases h
      split
      · exact State.cellWork_trans (appendCell_cellWork n _ s s' h') (modPicture_cellWork n _ s')
      · exact appendCell_cellWork n _ s s' h'
    · cases h
  · cases h

/-- Bits written touch the service, the pool, the bank users and CTL_ATTN. -/
theorem writeBits_cellWork (n : Svc) (bits : List Bool) (s : State) : s.cellWork n (writeBits n bits s) := by
  unfold writeBits
  split
  · simp only
    split
    · exact modPicture_cellWork n _ s
    · split
      · rename_i s' h
        exact State.cellWork_trans (appendPictureCell_cellWork n _ _ _ s s' h) (modPicture_cellWork n _ s')
      · exact overflow_cellWork n s
  · exact s.cellWork_refl n

theorem beginStripe_cellWork (n : Svc) (qs : Nat) (e : Bool) (s : State) : s.cellWork n (beginStripe n qs e s) :=
  State.cellWork_trans (modPicture_cellWork n _ s) (writeBits_cellWork n _ _)

theorem decideStripe_cellWork (n : Svc) (s : State) : s.cellWork n (decideStripe n s) := by
  unfold decideStripe
  split
  · split
    · exact beginStripe_cellWork n _ _ s
    · exact s.cellWork_refl n
  · exact s.cellWork_refl n

/-- A block coded touches the service, the pool, the bank users and CTL_ATTN. -/
theorem codeBlock_cellWork (n : Svc) (b : Block) (s : State) : s.cellWork n (codeBlock n b s) := by
  unfold codeBlock
  split
  · simp only
    have h1 : ∀ p : OpenPicture,
        s.cellWork n (if p.beginsStripe p.blocksCoded then decideStripe n s else s) := by
      intro p; split
      · exact decideStripe_cellWork n s
      · exact s.cellWork_refl n
    split
    · exact State.cellWork_trans (h1 _) (State.cellWork_trans (modPicture_cellWork n _ _)
        (State.cellWork_trans (writeBits_cellWork n _ _) (modPicture_cellWork n _ _)))
    · exact h1 _
  · exact s.cellWork_refl n

theorem codeMissing_cellWork (n : Svc) (s : State) : s.cellWork n (codeMissing n s) := by
  unfold codeMissing
  split
  · simp only
    have h1 : ∀ p : OpenPicture,
        s.cellWork n (if p.beginsStripe p.blocksCoded then beginStripe n p.qs p.emergency s else s) := by
      intro p; split
      · exact beginStripe_cellWork n _ _ s
      · exact s.cellWork_refl n
    split
    · exact State.cellWork_trans (h1 _) (State.cellWork_trans (writeBits_cellWork n _ _) (modPicture_cellWork n _ _))
    · exact h1 _
  · exact s.cellWork_refl n

/-- A step of a withdrawal touches its service alone. -/
theorem withdrawStep_cellWork (n : Svc) (s : State) : s.cellWork n (withdrawStep n s) := by
  unfold withdrawStep
  split
  · split
    · split
      · exact State.cellWork_trans (modSvc_cellWork n _ s) (recordLoss_cellWork n _ _ _)
      · split
        · exact State.cellWork_trans (modSvc_cellWork n _ s) (recordLoss_cellWork n _ _ _)
        · exact modSvc_cellWork n _ s
    · exact s.cellWork_refl n
  · exact s.cellWork_refl n

/-! ## Messages -/

theorem byteSum_append (a b : List Byte) : byteSum (a ++ b) = byteSum a + byteSum b := by
  have h : ∀ (l : List Byte) (x : Byte), l.foldl (· + ·) x = x + l.foldl (· + ·) 0 := by
    intro l
    induction l with
    | nil => intro x; simp
    | cons y l ih => intro x; simp only [List.foldl_cons]; rw [ih (x + y), ih (0 + y)]; bv_omega
  unfold byteSum
  rw [List.foldl_append, h b]

/-- The bytes of a whole message sum to 0 modulo 256 (R167). -/
theorem byteSum_message (code : Byte) (fields : List Byte) : byteSum (message code fields) = 0 := by
  unfold message
  simp only
  rw [byteSum_append]
  have : ∀ x : Byte, byteSum [0 - x] = 0 - x := by intro x; simp [byteSum]
  rw [this]; bv_omega

/-- A whole message is three bytes longer than its fields. -/
theorem length_message (code : Byte) (fields : List Byte) : (message code fields).length = fields.length + 3 := by
  simp [message]

end Sys2Proof.Machine
end

