-- ==== Sys2Proof/Laws/PerInstr.lean ====
section
/-! SUPPORT. What holds of every command as syntax, constructor by constructor: the field bytes of a well-formed port
command have a length that its command allows (R193) and that one length byte can carry (R167). -/

namespace Sys2Proof.Laws.FieldsFit

open Sys2Proof.Machine

/-- A well-formed command that is a port request has field bytes of an allowed length, at most 255. -/
def Statement (i : Instr) : Prop :=
  i.wellFormed = true →
    ∀ r, requestOf i = some r → lengthAllowed r.code r.fields.length = true ∧ r.fields.length ≤ 255

/-- A configuration block is 22 bytes (12_formats.md). -/
theorem length_cfgBytes (b : CfgBlock) : (cfgBytes b).length = 22 := rfl

theorem powerOn (lineHeld : Bool) : Statement (.powerOn lineHeld) := by
  intro _ r h; cases h

theorem resetLine : Statement (.resetLine) := by
  intro _ r h; cases h

theorem portFrameEnd (port : PortId) (received : List Byte) : Statement (.portFrameEnd port received) := by
  intro _ r h; cases h

theorem svcDefine (service : Byte) (cfg : CfgBlock) : Statement (.svcDefine service cfg) := by
  intro _ r h; cases h; exact ⟨rfl, Nat.le_of_ble_eq_true rfl⟩

theorem svcModify (service : Byte) (expected : Half) (mask : BitVec 24) (cfg : CfgBlock) :
    Statement (.svcModify service expected mask cfg) := by
  intro _ r h; cases h; exact ⟨rfl, Nat.le_of_ble_eq_true rfl⟩

theorem svcStart (service : Byte) : Statement (.svcStart service) := by
  intro _ r h; cases h; exact ⟨rfl, Nat.le_of_ble_eq_true rfl⟩

theorem svcStop (service : Byte) : Statement (.svcStop service) := by
  intro _ r h; cases h; exact ⟨rfl, Nat.le_of_ble_eq_true rfl⟩

theorem svcStopFlush (service : Byte) : Statement (.svcStopFlush service) := by
  intro _ r h; cases h; exact ⟨rfl, Nat.le_of_ble_eq_true rfl⟩

theorem svcRelease (service : Byte) : Statement (.svcRelease service) := by
  intro _ r h; cases h; exact ⟨rfl, Nat.le_of_ble_eq_true rfl⟩

theorem svcQuery (service : Byte) : Statement (.svcQuery service) := by
  intro _ r h; cases h; exact ⟨rfl, Nat.le_of_ble_eq_true rfl⟩

theorem weightsLoad (intra predicted : WeightTable) : Statement (.weightsLoad intra predicted) := by
  intro _ r h; cases h
  simp [lengthAllowed, Request.code, Request.fields]

theorem weightsQuery : Statement (.weightsQuery) := by
  intro _ r h; cases h; exact ⟨rfl, Nat.le_of_ble_eq_true rfl⟩

theorem muxSet (f : Half) (l a : Byte) : Statement (.muxSet f l a) := by
  intro _ r h; cases h; exact ⟨rfl, Nat.le_of_ble_eq_true rfl⟩

theorem muxQuery : Statement (.muxQuery) := by
  intro _ r h; cases h; exact ⟨rfl, Nat.le_of_ble_eq_true rfl⟩

theorem status : Statement (.status) := by
  intro _ r h; cases h; exact ⟨rfl, Nat.le_of_ble_eq_true rfl⟩

theorem reset : Statement (.reset) := by
  intro _ r h; cases h; exact ⟨rfl, Nat.le_of_ble_eq_true rfl⟩

theorem faultsRead (service : Byte) : Statement (.faultsRead service) := by
  intro _ r h; cases h; exact ⟨rfl, Nat.le_of_ble_eq_true rfl⟩

theorem faultsAck (service : Byte) : Statement (.faultsAck service) := by
  intro _ r h; cases h; exact ⟨rfl, Nat.le_of_ble_eq_true rfl⟩

theorem checkRead : Statement (.checkRead) := by
  intro _ r h; cases h; exact ⟨rfl, Nat.le_of_ble_eq_true rfl⟩

theorem checkClear : Statement (.checkClear) := by
  intro _ r h; cases h; exact ⟨rfl, Nat.le_of_ble_eq_true rfl⟩

theorem checkMode (mode : Byte) : Statement (.checkMode mode) := by
  intro _ r h; cases h; exact ⟨rfl, Nat.le_of_ble_eq_true rfl⟩

theorem keyLoad (service phase : Byte) (expected : Half) (key : BitVec 64) (payload : List Byte) :
    Statement (.keyLoad service phase expected key payload) := by
  intro hw r h; cases h
  simp only [Instr.wellFormed, keyPayloadFits, decide_eq_true_eq] at hw
  simp [lengthAllowed, Request.code, Request.fields, be16, keyBytes, be32]; omega

theorem keyClear (service phase : Byte) (expected : Half) : Statement (.keyClear service phase expected) := by
  intro _ r h; cases h; exact ⟨rfl, Nat.le_of_ble_eq_true rfl⟩

theorem keyPurge : Statement (.keyPurge) := by
  intro _ r h; cases h; exact ⟨rfl, Nat.le_of_ble_eq_true rfl⟩

theorem keyStatus (service selector : Byte) : Statement (.keyStatus service selector) := by
  intro _ r h; cases h; exact ⟨rfl, Nat.le_of_ble_eq_true rfl⟩

theorem requestsRead : Statement (.requestsRead) := by
  intro _ r h; cases h; exact ⟨rfl, Nat.le_of_ble_eq_true rfl⟩

theorem linkMessageArrival (burst : List Byte) : Statement (.linkMessageArrival burst) := by
  intro _ r h; cases h

theorem picHead (stages : Nat) : Statement (.picHead stages) := by
  intro _ r h; cases h

theorem blocks (stages : Nat) : Statement (.blocks stages) := by
  intro _ r h; cases h

theorem picTail (stages : Nat) : Statement (.picTail stages) := by
  intro _ r h; cases h

theorem withdraw (service : Svc) : Statement (.withdraw service) := by
  intro _ r h; cases h

theorem heldRecordResume (stages : Nat) : Statement (.heldRecordResume stages) := by
  intro _ r h; cases h

theorem frameStart (early order : List Svc) : Statement (.frameStart early order) := by
  intro _ r h; cases h

theorem silenceExpiry (service : Svc) : Statement (.silenceExpiry service) := by
  intro _ r h; cases h

theorem periodExpiry (service : Svc) : Statement (.periodExpiry service) := by
  intro _ r h; cases h

theorem windowEnd (service : Svc) : Statement (.windowEnd service) := by
  intro _ r h; cases h

theorem entitlementCountdownExpiry (service : Svc) : Statement (.entitlementCountdownExpiry service) := by
  intro _ r h; cases h

theorem deferralLimit (service : Svc) : Statement (.deferralLimit service) := by
  intro _ r h; cases h

theorem slotPull (ecc : EccResult) : Statement (.slotPull ecc) := by
  intro _ r h; cases h

theorem resetLineRelease : Statement (.resetLineRelease) := by
  intro _ r h; cases h

theorem packerRecordWork (stages : Nat) : Statement (.packerRecordWork stages) := by
  intro _ r h; cases h

end Sys2Proof.Laws.FieldsFit
end

