-- ==== Sys2Proof/Tests/Slice0.lean ====
section
/-! SUPPORT. Tests: what the checks of a command's form refuse, the manual's worked examples, one step a test, and for
every statement with hypotheses a state and operands that meet them. -/

namespace Sys2Proof.Tests

set_option Elab.async false

open Sys2Proof Sys2Proof.Machine

/-! ## Helpers -/

/-- The next state of an outcome. -/
def after (o : Host.Outcome State Fault Refusal) : Option State :=
  match o with
  | .next t => some t
  | .fault _ | .refused _ => none

/-- What is seen of the next state. -/
def sees {α : Type} (f : State → α) (o : Host.Outcome State Fault Refusal) : Option α := (after o).map f

theorem next_of_after {o : Host.Outcome State Fault Refusal} {t : State} (h : after o = some t) : o = .next t := by
  cases o with
  | next u => cases h; rfl
  | fault r => cases h
  | refused r => cases h

/-- A configuration block: cells 128 to 143, floor 4, weight 1, qs 20 within 8 to 40, p × c = 4 × 3 frames, lead 5,
E = 2, Nmin = 2, Dmax = 3, Z = 5. -/
def block (protection mode : Byte) : CfgBlock :=
  { base := 128, k := 4, protection := protection, floor := 4, weight := 1, qinit := 20, qmin := 8, qmax := 40,
    rndIntra := 3, rndPred := 2, periodMode := mode, p := 4, c := 3, lead := 5, e := 2, nmin := 2, dmax := 3, z := 5,
    startPhase := 0 }

/-- A service of that block in a state and a protection state, with the keys of a context. -/
def service (protection mode : Byte) (a : Activity) (prot : Option ProtState) : Service :=
  let v := Service.created (SvcConfig.ofBlock (block protection mode))
  { v with activity := a, keys := { v.keys with prot := prot, timer := { prescale := 4, count := 3 } } }

/-- The part after reset with service 2 in place. -/
def part (v : Service) : State := State.reset.putSvc 2 (some v)

/-- A key slot with a payload of two bytes, sent a number of times. -/
def slot (sent : Nat) : KeySlot := { key := 0x0000000100000000, payload := [0xAA, 0xBB], sent := sent }

/-- A CLEAR service, RUNNING. -/
def clearRunning : Service := service 0 0 .running (some .clear)

/-- A SCRAMBLED service under REPEAT, RUNNING, with a key in each slot. -/
def keyed (sent0 sent1 : Nat) (prot : ProtState) : Service :=
  let v := service 1 0 .running (some prot)
  { v with keys := { v.keys with slot0 := some (slot sent0), slot1 := some (slot sent1) } }

/-- The open picture 7 of the manual's worked picture (03_quantization_and_coding.md), after its PIC_HEAD. -/
def picture : OpenPicture :=
  { number := 7, kind := .predicted, stripes := 2, blocksPerStripe := 2, blocksCoded := 0, bank := .zero, rndIntra := 3
    rndPred := 2, saturated := false, steps := List.replicate 16 12, qinit := 12, qmin := 8, qmax := 40
    target := 10000, qs := 12, qsSum := 12, bitsSpent := 38, emergency := false
    cell := { start := true, bits := List.replicate 38 true }, firstCell := .unwritten }

/-- A service with an open picture. -/
def Coding (v : Service) (p : OpenPicture) : Service := v.setIngest (.inPicture p)

/-- The part with an open picture, its bank user counted, and records waiting. -/
def packing (v : Service) (p : OpenPicture) (q : List Record) : State :=
  let s := part (Coding v p)
  { s with quant := { s.quant with users0 := 1 }, ingestQueue := q, credits := 64 - q.length }

/-- A picture cell of service 2. -/
def cell (start : Bool) : PoolCell := { kind := .picture, service := 2, start := start, validBits := 736, payload := 0 }

/-- The part in payload slot 4 with service 2 holding two cells at the head of its ring. -/
def slotFour (v : Service) : State :=
  let s := part { v with queue := { v.queue with read := 128, write := 130 } }
  { s with slotIndex := 4, pool := { cells := [(128, cell true), (129, cell false)] } }

/-! ## Well-formed commands -/

theorem test_wf_key_payload_244_refused :
    (Instr.keyLoad 0 0 0 0 (List.replicate 244 0)).wellFormed = false := by decide +kernel

theorem test_wf_key_payload_243_taken :
    (Instr.keyLoad 0 0 0 0 (List.replicate 243 0)).wellFormed = true := by decide +kernel

theorem test_wf_repeated_service_refused : (Instr.frameStart [] [3, 3]).wellFormed = false := by decide

/-! ## The manual's worked values -/

/-- R190: a NULL cell begins 0x20 0x00 0x00 0x43. -/
theorem test_null_header : nullCell.bytes.take 4 = [0x20, 0x00, 0x00, 0x43] := by decide +kernel

/-- R192: the CRC-16 over the digits 1 to 9. -/
theorem test_crc16_digits : crc16 [0x31, 0x32, 0x33, 0x34, 0x35, 0x36, 0x37, 0x38, 0x39] = 0x29B1 := by
  decide +kernel

/-- 09_payload_scrambling.md, Worked keystream. -/
theorem test_keystream_words :
    (keystream 0x0000000100000000 0 0).take 2 = [0x00000801, 0x2D06306E] ∧
      (keystream 0x0000000100000000 1 0).head? = some 0x2D06306E := by decide +kernel

/-- 09_payload_scrambling.md: the starting values. -/
theorem test_keystream_start :
    keystreamStart 0x0000000089ABCDEF 7 3 = 0x8AA8CEEB ∧ keystreamStart 0 0 5 = 0x05050505 := by decide +kernel

/-- 09_payload_scrambling.md: the first eight payload bytes before and after. -/
theorem test_scrambled_bytes :
    (payloadBytes (scramblePayload 0x0000000100000000 0 0
        (payloadOfBytes [0x12, 0x34, 0x56, 0x78, 0x9A, 0xBC, 0xDE, 0xF0]))).take 8
      = [0x12, 0x34, 0x5E, 0x79, 0xB7, 0xBA, 0xEE, 0x9E] := by decide +kernel

/-- 03_quantization_and_coding.md, "A predicted block": its levels and its 45 bits. -/
theorem test_predicted_block :
    let b : Block := [312, BitVec.ofInt 12 (-95), 40, 0, 22, BitVec.ofInt 12 (-7), 3, 0, 0, BitVec.ofInt 12 (-15),
      0, 0, 0, 0, 0, 2]
    let levels := quantizeBlock (stripeSteps (Vector.replicate 16 16) 12) 2 b
    levels = [26, -8, 3, 0, 2, 0, 0, 0, 0, -1, 0, 0, 0, 0, 0, 0] ∧ (blockCode levels).length = 45 ∧
      natOfBits (blockCode levels) = 0b100101100001101001000100011011001001000010111 := by decide +kernel

/-- 03_quantization_and_coding.md, "An intra block": its levels and its 66 bits. -/
theorem test_intra_block :
    let b : Block := [1500, BitVec.ofInt 12 (-410), 233, BitVec.ofInt 12 (-60), 15, 0, 40, BitVec.ofInt 12 (-22), 0, 0,
      9, 0, BitVec.ofInt 12 (-30), 0, 0, 0]
    let levels := quantizeBlock (stripeSteps Config.defaultIntra 20) 3 b
    levels = [75, -20, 12, -2, 1, 0, 1, -1, 0, 0, 0, 0, -1, 0, 0, 0] ∧ (blockCode levels).length = 66 := by
  decide +kernel

/-- 03_quantization_and_coding.md, "A saturating block". -/
theorem test_saturating_block :
    let b : Block := [300, 0, 0, 0, 0, 0, 0, 0, 0, 0, 0, 0, 0, 0, 0, BitVec.ofInt 12 (-2048)]
    let steps := stripeSteps Config.defaultIntra 1
    quantizeBlock steps 3 b = [255, 0, 0, 0, 0, 0, 0, 0, 0, 0, 0, 0, 0, 0, 0, -255] ∧
      blockSaturates steps 3 b = true ∧ magnitude 3 3 (-2048) = 683 ∧ magnitude 3 2 (-2048) = 682 := by decide +kernel

/-- R52: the longest block. -/
theorem test_longest_block : (blockCode (List.replicate 16 255)).length = 282 := by decide +kernel

/-- 04_rate_control.md, "A picture of four stripes": target, initial qs and the three decisions. -/
theorem test_worked_rate :
    let p := { picture with stripes := 4, blocksPerStripe := 100, qmin := 8, qmax := 40, target := 47840 }
    pictureTarget 50 .predicted 20 4 100 = 47840 ∧
      initialQs (some { bitsPrev := 52000, qavgPrev := 22 }) 30 8 40 47840 = 24 ∧
      stripeDecision { p with qs := 24, bitsSpent := 14000 } 35 1 = (26, false) ∧
      stripeDecision { p with qs := 26, bitsSpent := 26500 } 30 2 = (26, false) ∧
      stripeDecision { p with qs := 26, bitsSpent := 30000 } 33 3 = (25, false) ∧
      stripeDecision { p with qs := 26, bitsSpent := 26500 } 2 2 = (40, true) := by decide +kernel

/-- 06_multiplex_allocation.md, "Worked allocation": the grants of frame 1,000. -/
theorem test_worked_allocation :
    let lines : List DemandLine := [⟨0, 12000⟩, ⟨1, 18000⟩, ⟨2, 3600⟩]
    lines.map (extraShare 674 lines) = [241, 361, 72] := by decide +kernel

/-- 06_multiplex_allocation.md: frame 1,002 in either order, and the tie of the next example. -/
theorem test_worked_allocation_orders :
    let first : List DemandLine := [⟨0, 20000⟩, ⟨1, 0⟩, ⟨2, 3600⟩, ⟨3, 10000⟩]
    let second : List DemandLine := [⟨0, 20000⟩, ⟨1, 18000⟩, ⟨2, 3600⟩, ⟨3, 10000⟩]
    let tie : List DemandLine := [⟨4, 100⟩, ⟨7, 100⟩]
    first.map (extraShare 634 first) = [377, 0, 68, 189] ∧ second.map (extraShare 634 second) = [246, 221, 44, 123] ∧
      tie.map (extraShare 5 tie) = [3, 2] := by decide +kernel

/-! ## One step of each command -/

theorem test_power_on : sees (fun t => (t.startCause, t.rstAsserted)) (exec (.powerOn true) (part clearRunning))
    = some (.power, true) := by decide +kernel

theorem test_reset_line :
    sees (fun t => (t.startCause, t.rstAsserted, t.svc 2)) (exec .resetLine (part clearRunning))
      = some (.line, true, none) := by decide +kernel

theorem test_reset_line_release :
    sees (fun t => t.rstAsserted) (exec .resetLineRelease { State.reset with rstAsserted := true }) = some false := by
  decide +kernel

/-- R167, R193: STATUS as 0x20 0x00 0xE0 on the wire; 12_formats.md: the answer is 14 bytes when no list is faulted. -/
theorem test_status_on_the_wire :
    sees (fun t => ((t.control.held.getD []).length, (t.control.held.getD []).take 4, t.control.take))
      (exec (.portFrameEnd .control [0x20, 0x00, 0xE0]) State.reset) = some (14, [0xA0, 11, 0, 1], 1) := by
  decide +kernel

/-- 10_management_ports.md, "Two commands, one lost": a frame of 10 bytes against a held response of 26. -/
theorem test_frame_too_short :
    sees (fun t => (t.control.held.isSome, t.control.take, t.checks.flags, t.control.dataOut.length))
      (exec (.portFrameEnd .control ([0x06, 0x01, 0x02, 0xF7] ++ List.replicate 6 0xFF))
        { State.reset with control := { held := some (List.replicate 26 1), take := 41, rx := [], dataOut := [] } })
      = some (true, 41, 1, 10) := by decide +kernel

/-- 13_worked_sequences.md, bring-up: a definition is answered DEFINED, revision 0. -/
theorem test_svc_define :
    sees (fun t => t.control.held) (exec (.svcDefine 2 (block 1 0)) State.reset)
      = some (some (message 0x81 [0, 1, 2, 1, 0, 0])) := by decide +kernel

/-- 01_services.md, "Capacity at start": a floor changed while DEFINED raises the revision to 1. -/
theorem test_svc_modify :
    sees (fun t => ((t.svc 2).map fun v => (v.cfg.floor, v.revision, v.cfg.weight)))
      (exec (.svcModify 2 0 0x000008 { block 0 0 with floor := 336, weight := 9 }) (part (service 0 0 .defined none)))
      = some (some (336, 1, 1)) := by decide +kernel

/-- 13_worked_sequences.md, bring-up of s1: SCRAMBLED, timer 4, 3 (remaining 12), countdown 1, fallback. -/
theorem test_svc_start :
    let v := service 1 0 .defined none
    sees (fun t => (t.svc 2).map fun w => (w.keys.prot, w.keys.timer.remaining 4, w.keys.countdown, w.alloc.fallback))
      (exec (.svcStart 2) (part { v with keys := { v.keys with slot0 := some (slot 0) } }))
      = some (some (some .scrambled, 12, 1, true)) := by decide +kernel

/-- 13_worked_sequences.md, "A RESET during operation": a start before the key load enters BLACKOUT. -/
theorem test_svc_start_without_key :
    sees (fun t => ((t.svc 2).map fun w => w.keys.prot, t.requests, t.keyAttn, t.ctlAttn))
      (exec (.svcStart 2) (part (service 1 0 .defined none)))
      = some (some (some .blackout), [⟨2, .zero, true⟩], true, true) := by decide +kernel

theorem test_svc_stop_drains :
    sees (fun t => (t.svc 2).map fun w => w.activity) (exec (.svcStop 2) (slotFour clearRunning))
      = some (some .draining) := by decide +kernel

theorem test_svc_stop_flush :
    sees (fun t => (t.svc 2).map fun w => (w.activity, w.queue.read, w.queue.write))
      (exec (.svcStopFlush 2) (slotFour clearRunning)) = some (some (.defined, 130, 130)) := by decide +kernel

theorem test_svc_release :
    sees (fun t => t.svc 2) (exec (.svcRelease 2) (part (service 0 0 .defined none))) = some none := by decide +kernel

/-- R19, 12_formats.md: an answer to SVC_QUERY. -/
theorem test_svc_query :
    sees (fun t => ((t.control.held.getD []).drop 4).take 6) (exec (.svcQuery 2) (part clearRunning))
      = some [2, 2, 0, 0, 0, 128] := by decide +kernel

/-- 13_worked_sequences.md: a WEIGHTS_LOAD is accepted while the inactive bank has no users. -/
theorem test_weights_load :
    let t1 := Vector.replicate 16 (4 : Byte)
    let t2 := Vector.replicate 16 (64 : Byte)
    sees (fun t => (t.quant.active, t.quant.bank1.intra, t.quant.bank1.predicted, t.quant.bank0 == State.reset.quant.bank0))
      (exec (.weightsLoad t1 t2) State.reset) = some (.one, t1, t2, true) := by decide +kernel

theorem test_weights_query :
    sees (fun t => (t.control.held.getD []).length) (exec .weightsQuery State.reset) = some 72 := by decide +kernel

theorem test_mux_set :
    sees (fun t => (t.inForce, t.frameStruct.f, t.adoptionPending)) (exec (.muxSet 1024 32 16) State.reset)
      = some (⟨1024, 32, 16⟩, 512, true) := by decide +kernel

theorem test_mux_query :
    sees (fun t => ((t.control.held.getD []).drop 4).take 8) (exec .muxQuery State.reset)
      = some [0x02, 0x00, 4, 2, 0x01, 0xFC, 0x03, 0xF8] := by decide +kernel

theorem test_status_row :
    sees (fun t => t.control.held) (exec .status State.reset)
      = some (some (message 0xA0 [0, 1, 0, 0, 0, 0, 0, 0, 0, 0, 0])) := by decide +kernel

/-- 13_worked_sequences.md, "A RESET during operation": CTL_ATTN stays for check attention, six credits come back. -/
theorem test_reset :
    let s := part clearRunning
    sees (fun t => (t.svc 2, t.credits, t.clCredit, t.ctlAttn, t.startCause, t.frameNumber))
      (exec .reset { s with
        frameNumber := 300, ctlAttn := true, credits := 58, checks := { s.checks with attention := true }
        ingestQueue := List.replicate 5 (.picTail 2 0), packer := some ⟨.picTail 2 0, .passing⟩ })
      = some (none, 64, 6, true, .command, 300) := by decide +kernel

/-- 11_faults_and_checks.md, "A fault list that fills": the acknowledgement. -/
theorem test_faults_ack :
    let s := part { clearRunning with faults := { entries := [⟨.strayInput, 300, 2⟩], more := true } }
    sees (fun t => (t.ctlAttn, (t.svc 2).map fun v => v.faults.entries.length,
        ((t.control.held.getD []).drop 4).take 3))
      (exec (.faultsAck 2) { s with ctlAttn := true }) = some (false, some 0, [2, 1, 1]) := by decide +kernel

theorem test_faults_read :
    let s := part { clearRunning with faults := { entries := [⟨.strayInput, 300, 2⟩], more := true } }
    sees (fun t => (t.ctlAttn, t.control.held)) (exec (.faultsRead 2) { s with ctlAttn := true })
      = some (true, some (message 0xA8 [0, 1, 2, 1, 1, 6, 0, 0, 0x01, 0x2C, 2])) := by decide +kernel

theorem test_check_read :
    sees (fun t => ((t.control.held.getD []).drop 4).take 12) (exec .checkRead State.reset)
      = some [0, 0, 0, 0xFF, 0, 0, 0, 0, 0xFF, 0xFF, 0, 3] := by decide +kernel

theorem test_check_clear :
    let s := State.reset
    sees (fun t => (t.checks.flags, t.ctlAttn, t.checks.mode))
      (exec .checkClear { s with ctlAttn := true, checks := { flags := 8, detail := none, attention := true, mode := 2 } })
      = some (0, false, 2) := by decide +kernel

theorem test_check_mode : sees (fun t => t.checks.mode) (exec (.checkMode 1) State.reset) = some 1 := by decide +kernel

/-- 13_worked_sequences.md, the load within frame 22: the request leaves, KEY_ATTN falls, the countdown becomes 1. -/
theorem test_key_load :
    let v := keyed 5 0 .late
    let s := part { v with keys := { v.keys with slot1 := none, generation := 1, deferral := 3 } }
    sees (fun t => ((t.svc 2).map fun w => (w.keys.countdown, w.keys.generation, w.keys.prot), t.requests, t.keyAttn))
      (exec (.keyLoad 2 1 1 0x1122334455667788 [1, 2, 3]) { s with requests := [⟨2, .one, true⟩], keyAttn := true })
      = some (some (1, 2, some .late), [], false) := by decide +kernel

theorem test_key_clear :
    sees (fun t => ((t.svc 2).map fun w => (w.keys.prot, w.keys.slot0, w.keys.slot1.isSome), t.requests))
      (exec (.keyClear 2 0 0) (part (keyed 5 0 .scrambled)))
      = some (some (some .blackout, none, true), [⟨2, .zero, true⟩]) := by decide +kernel

theorem test_key_purge :
    sees (fun t => ((t.svc 2).map fun w => (w.keys.prot, w.keys.hasKey, w.keys.generation), t.key.held))
      (exec .keyPurge (part (keyed 5 0 .late)))
      = some (some (some .blackout, false, 1), some (message 0xC2 [0, 1, 1])) := by decide +kernel

/-- 13_worked_sequences.md: KEY_STATUS in frame 24 reports LATE, deferral 3, sent 1 and a remaining period of 0. -/
theorem test_key_status :
    let v := keyed 5 1 .late
    let s := part { v with keys := { v.keys with deferral := 3, generation := 2 } }
    sees (fun t => t.key.held) (exec (.keyStatus 2 1) s)
      = some (some (message 0xC3 [0, 1, 2, 0, 2, 0, 0, 4, 1, 5, 1, 1, 0, 0, 3, 0, 0, 0, 0, 0])) := by decide +kernel

theorem test_requests_read :
    sees (fun t => ((t.key.held.getD []).drop 4).take 7)
      (exec .requestsRead { part (keyed 1 1 .scrambled) with requests := [⟨2, .one, true⟩], keyAttn := true })
      = some [1, 2, 1, 1, 0, 0, 0] := by decide +kernel

/-- R22: a PIC_TAIL burst of service 2 written out by R192, admitted. -/
theorem test_link_message_arrival :
    let front : List Byte := [0x03, 0x02, 0x00, 0x02, 0x00, 0x07]
    sees (fun t => (t.ingestQueue, t.credits)) (exec (.linkMessageArrival (front ++ be16 (crc16 front))) (part clearRunning))
      = some ([.picTail 2 7], 63) := by decide +kernel

/-- 13_worked_sequences.md, "A RESET during operation": BLOCKS for an UNUSED service is UNROUTED, its credit returned. -/
theorem test_link_message_unrouted :
    let front : List Byte := [0x03, 0x00, 0x00, 0x02, 0x00, 0x07]
    sees (fun t => (t.ingestQueue, t.credits, t.clCredit, t.checks.flags))
      (exec (.linkMessageArrival (front ++ be16 (crc16 front))) State.reset) = some ([], 64, 1, 2) := by decide +kernel

/-- 03_quantization_and_coding.md, "Worked picture": the open writes 38 bits and takes a user of bank 0. -/
theorem test_pic_head :
    let s := part clearRunning
    sees (fun t => ((t.picture 2).map fun p => (p.bitsSpent, p.blocksCoded, p.bank), t.quant.users0, t.credits))
      (exec (.picHead 1) { s with ingestQueue := [.picHead 2 7 .predicted 2 2 100], credits := 63 })
      = some (some (38, 0, .zero), 1, 64) := by decide +kernel

/-- 03_quantization_and_coding.md, "Worked picture": block 0 brings the picture to 83 bits. -/
theorem test_blocks :
    let b : Block := [312, BitVec.ofInt 12 (-95), 40, 0, 22, BitVec.ofInt 12 (-7), 3, 0, 0, BitVec.ofInt 12 (-15),
      0, 0, 0, 0, 0, 2]
    sees (fun t => ((t.picture 2).map fun p => (p.bitsSpent, p.blocksCoded), t.credits))
      (exec (.blocks 2) (packing clearRunning picture [.blocks 2 [b]])) = some (some (83, 1), 64) := by decide +kernel

/-- 03_quantization_and_coding.md, "Worked picture": the tail codes blocks 1 to 3 and stripe 1's header, 92 bits. -/
theorem test_pic_tail :
    let p := { picture with blocksCoded := 1, bitsSpent := 83, cell := { start := true, bits := List.replicate 83 true } }
    sees (fun t => ((t.svc 2).map fun v => (v.stats, v.faults.entries.map fun e => e.code, v.queue.write), t.quant.users0,
        (t.pool.read 128).validBits))
      (exec (.picTail 5) (packing clearRunning p [.picTail 2 7]))
      = some (some (some ⟨92, 12⟩, [.pictureShort], 129), 0, 92) := by decide +kernel

/-- 13_worked_sequences.md, the overload: the first withdrawn cell is 143, the write pointer wraps from 128. -/
theorem test_withdraw :
    let v := { clearRunning with queue :=
      { read := 129, write := 128, marker := none, withdrawal := some ⟨52, .sent 141⟩ } }
    sees (fun t => (t.svc 2).map fun w => w.queue.write) (exec (.withdraw 2) (part v)) = some (some 143) := by
  decide +kernel

/-- 13_worked_sequences.md, the overload: the withdrawal ends with the marker 52, cut, count 1. -/
theorem test_withdraw_ends :
    let v := { clearRunning with queue :=
      { read := 134, write := 134, marker := none, withdrawal := some ⟨52, .sent 141⟩ } }
    sees (fun t => (t.svc 2).map fun w => (w.queue.withdrawal, w.queue.marker)) (exec (.withdraw 2) (part v))
      = some (some (none, some ⟨52, true, 1⟩)) := by decide +kernel

/-- 13_worked_sequences.md, the overload: the held record's marker test appends the GAP cell at 134. -/
theorem test_held_record_resume :
    let v := { (clearRunning.setIngest .discarding) with queue :=
      { read := 134, write := 134, marker := some ⟨52, true, 1⟩, withdrawal := none } }
    sees (fun t => ((t.svc 2).map fun w => (w.queue.write, w.queue.marker),
        (payloadBytes (t.pool.read 134).payload).take 4, t.packer))
      (exec (.heldRecordResume 1) { part v with packer := some ⟨.blocks 2 [[]], .held false⟩, credits := 63 })
      = some (some (135, none), [0x00, 0x34, 0x01, 0x01], none) := by decide +kernel

theorem test_packer_record_work :
    sees (fun t => (t.packer, t.credits))
      (exec (.packerRecordWork 1) { part clearRunning with packer := some ⟨.picTail 2 0, .passing⟩, credits := 63 })
      = some (none, 64) := by decide +kernel

/-- 13_worked_sequences.md, frame 26: the LATE service with sent count 2 changes over. -/
theorem test_frame_start_changeover :
    let v := keyed 5 2 .late
    let s := part { v with keys := { v.keys with generation := 2, deferral := 3, countdown := 2 }, cellSeq := 9 }
    sees (fun t => (t.svc 2).map fun w =>
        [w.keys.prot == some .scrambled, w.keys.phase == .one, w.keys.generation == 3, w.keys.stamp == some 26,
          w.keys.timer == ⟨4, 3⟩, w.keys.slot0.isNone, w.cellSeq == 0, w.keys.countdown == 2, w.keys.deferral == 0])
      (exec (.frameStart [2] []) { s with frameNumber := 25, frameBegun := true })
      = some (some (List.replicate 9 true)) := by decide +kernel

/-- 13_worked_sequences.md, frame 8: the countdown runs out, the timer stands at 3, 3. -/
theorem test_frame_start_work :
    let v := keyed 0 0 .scrambled
    let s := part { v with keys := { v.keys with countdown := 1 } }
    sees (fun t => (t.frameNumber, (t.svc 2).map fun w => w.keys.timer, t.frameDue.contains (.countdown 2)))
      (exec (.frameStart [] []) { s with frameNumber := 7, frameBegun := true })
      = some (8, some ⟨3, 3⟩, true) := by decide +kernel

/-- R103: the silence expiry of service 2 is taken before the period start and that of service 3 after it. Worked out
from R104 to R107: 1,016 slots, floors of 8, no reserve, and all of the remaining 1,000 for the demand of service 3. -/
theorem test_frame_start_mixed_order :
    let v := { clearRunning with ingest := { clearRunning.ingest with silence := 4 } };
    let w := { v with cfg := { v.cfg with base := 144 }, queue := { v.queue with read := 144, write := 144 } };
    sees (fun t => allServices.filterMap fun n => ((settle t).svc n).map fun u => (u.activity, u.alloc.grant))
      (exec (.frameStart [2] []) ((part v).putSvc 3 (some w))) = some [(.stalled, 8), (.stalled, 1008)] := by
  decide +kernel

/-- 13_worked_sequences.md, frame 19: the expiry finds phase 1 empty. -/
theorem test_period_expiry :
    let v := keyed 5 0 .scrambled
    let s := part { v with keys := { v.keys with slot1 := none } }
    sees (fun t => ((t.svc 2).map fun w => w.keys.prot, t.requests))
      (exec (.periodExpiry 2) { s with frameDue := [.period 2], requests := [⟨2, .one, false⟩], keyAttn := true })
      = some (some (some .deferred), [⟨2, .one, true⟩]) := by decide +kernel

/-- 13_worked_sequences.md, frame 22: LATE, with KEY_LATE of frame 22. -/
theorem test_deferral_limit :
    sees (fun t => ((t.svc 2).map fun w => (w.keys.prot, w.faults.entries), t.ctlAttn))
      (exec (.deferralLimit 2)
        { part (keyed 5 0 .deferred) with frameDue := [.deferral 2], frameNumber := 22 })
      = some (some (some .late, [⟨.keyLate, 22, 1⟩]), true) := by decide +kernel

theorem test_window_end :
    let v := keyed 2 0 .window
    sees (fun t => (t.svc 2).map fun w => (w.keys.prot, w.keys.windowSpent))
      (exec (.windowEnd 2) { part v with frameDue := [.window 2] }) = some (some (some .scrambled, true)) := by
  decide +kernel

theorem test_entitlement_countdown_expiry :
    let v := keyed 2 0 .scrambled
    sees (fun t => (t.dueList, (t.svc 2).map fun w => w.keys.countdown))
      (exec (.entitlementCountdownExpiry 2) { part v with frameDue := [.countdown 2] }) = some ([2], some 2) := by
  decide +kernel

/-- 11_faults_and_checks.md: INPUT_LOST 320 at the silence expiry. -/
theorem test_silence_expiry :
    sees (fun t => (t.svc 2).map fun w => (w.activity, w.faults.entries))
      (exec (.silenceExpiry 2) { part clearRunning with frameDue := [.silence 2], frameNumber := 320 })
      = some (some (.stalled, [⟨.inputLost, 320, 1⟩])) := by decide +kernel

/-- 13_worked_sequences.md, slot 4 of frame 8: the current slot's payload with phase 0 and continuity 0. -/
theorem test_slot_pull_entitle :
    let v := keyed 0 0 .scrambled
    let w := { v with keys := { v.keys with slot1 := none } }
    sees (fun t => (t.outCell.take 3, (t.outCell.drop 4).take 3, (t.svc 2).map fun u => u.keys.slot0.map fun x => x.sent))
      (exec (.slotPull .clean) { slotFour w with dueList := [2] })
      = some ([0x84, 0x00, 0x10], [0xAA, 0xBB, 0x00], some (some 1)) := by decide +kernel

/-- 07_output_frames_and_slot_scheduling.md, slot 9 with an uncorrectable cell: a NULL, the counter from 9 to 10. -/
theorem test_slot_pull_uncorrectable :
    let v := { clearRunning with contPicture := 9 }
    sees (fun t => (t.outCell.take 4, (t.svc 2).map fun u => (u.contPicture, u.queue.read), t.rrPointer, t.checks.flags))
      (exec (.slotPull .uncorrectable) (slotFour v)) = some ([0x20, 0, 0, 0x43], some (10, 129), 3, 0x20) := by decide +kernel

/-! ## Witnesses: states and operands that meet the hypotheses of the statements -/

theorem part_atRest (v : Service) : (part v).atRest := ⟨rfl, rfl⟩

theorem reset_atRest : State.reset.atRest := ⟨rfl, rfl⟩

theorem test_meets_PowerAndResetLine : (part clearRunning).rstAsserted = false := rfl

theorem test_meets_AssertedLineAndOutstandingWork :
    (({ State.reset with rstAsserted := true } : State).rstAsserted = true ∧ isLineCommand .status = false) ∧
      (({ State.reset with frameDue := [.allocate] } : State).rstAsserted = false ∧ isLineCommand .status = false ∧
        expiryOf .status = none) := by decide +kernel

theorem test_meets_RequestReadsBackFromItsMessage :
    (Request.keyLoad 0 0 0 0 (List.replicate 243 0)).fields.length = 255 ∧ Request.status.fields.length = 0 := by
  decide +kernel

/-- A state whose control port holds a response of a length. -/
def holding (n : Nat) : State :=
  { part clearRunning with control := { held := some (List.replicate n 1), take := 255, rx := [], dataOut := [] } }

theorem test_meets_FrameEndTakesTheRequest :
    requestOf .status = some .status ∧ Instr.status.wellFormed = true ∧ (holding 3).atRest ∧
      ((holding 3).port Request.status.port).rx = [] ∧
      ∀ m ∈ ((holding 3).port Request.status.port).held, m.length ≤ (Request.status.message ++ []).length :=
  ⟨rfl, rfl, ⟨rfl, rfl⟩, rfl, by decide +kernel⟩

theorem test_meets_FramesReadTheHeldResponse :
    ((holding 4).atRest ∧ ((holding 4).port .control).rx = [] ∧
        ((holding 4).port .control).held = some (List.replicate 4 1) ∧
        ([0x20, 0x00, 0xE0] : List Byte).length < (List.replicate 4 (1 : Byte)).length ∧
        ([0x20, 0x00, 0xE0] : List Byte) ≠ [] ∧ ([0x20, 0x00, 0xE0] : List Byte).head? ≠ some 0xFF ∧
        (holding 4).checks.detail = none ∧ (holding 4).checks.mode = 3) ∧
      ((holding 4).atRest ∧ ((holding 4).port .control).rx = [] ∧
        ((holding 4).port .control).held = some (List.replicate 4 1) ∧
        (List.replicate 4 (0xFF : Byte)).head? = some 0xFF) :=
  ⟨⟨⟨rfl, rfl⟩, by decide +kernel⟩, ⟨rfl, rfl⟩, by decide +kernel⟩

theorem test_meets_FramingFailuresAreAnswered :
    (State.reset.atRest ∧ (State.reset.port .key).rx = [] ∧ (State.reset.port .key).held = none) ∧
      ((holding 2).atRest ∧ ((holding 2).port .control).rx = [] ∧ ((holding 2).port .control).take = 255 ∧
        ∀ m ∈ ((holding 2).port .control).held, m.length ≤ ([0x20, 0x00] : List Byte).length) ∧
      -- one byte too short; a wrong sum; a bad length under a right sum; a foreign code, well framed
      ([0x20, 0x00] : List Byte).length < 0 + 3 ∧ byteSum [0x20, 0x00, 0xE1] ≠ 0 ∧
      ((0x20 : Byte) ∈ portCodes .control ∧ lengthAllowed 0x20 1 = false ∧ byteSum [0x20, 0x01, 0x00, 0xDF] = 0) ∧
      ((0x20 : Byte) ∉ portCodes .key ∧ byteSum [0x20, 0x00, 0xE0] = 0) :=
  ⟨⟨⟨rfl, rfl⟩, rfl, rfl⟩, ⟨⟨rfl, rfl⟩, by decide +kernel⟩, by decide +kernel⟩

/-- R168, R169: a wrong byte sum after other requests: FORMAT with the next take number, 255 being followed by 0. -/
theorem test_framing_failure :
    sees (fun t => (t.control.held, t.control.take, t.checks.flags)) (exec (.portFrameEnd .control [0x20, 0x00, 0xE1])
      (holding 3)) = some (some (message 0xA0 [9, 0]), 0, 1) := by decide +kernel

theorem test_meets_RefusalsChangeNothing :
    (runRequest (.svcStart 0) (countTake .control State.reset)).2.code ≠ .ok ∧
      (runRequest (.keyClear 0 0 0) (countTake .key State.reset)).2.code ≠ .ok := by decide +kernel

/-! ### Services -/

/-- A block at the top of the pool with the largest floor and equal qs bounds. -/
def topBlock : CfgBlock := { block 1 2 with base := 4080, floor := 508, qmin := 63, qmax := 63, qinit := 63 }

theorem test_meets_SvcDefineCreatesTheService :
    State.reset.atRest ∧ (15 : Byte).toNat = (15 : Svc).val ∧ State.reset.svc 15 = none ∧ blockInRange topBlock ∧
      topBlock.qmin.toNat ≤ topBlock.qmax.toNat ∧ topBlock.floor.toNat ≤ State.reset.inForce.f - State.reset.inForce.l ∧
      (SvcConfig.ofBlock topBlock).placed ∧ State.reset.regionFree 15 (SvcConfig.ofBlock topBlock) := by
  refine ⟨⟨rfl, rfl⟩, by decide +kernel, by decide +kernel, ?_, by decide +kernel, by decide +kernel, ?_, ?_⟩
  · unfold blockInRange; decide +kernel
  · unfold SvcConfig.placed; decide +kernel
  · unfold State.regionFree; decide +kernel

/-- Service 2 at cells 128 to 143 and service 3 behind it. -/
def pair (v : Service) : State :=
  (part v).putSvc 3 (some (Service.created (SvcConfig.ofBlock { block 0 0 with base := 144 })))

theorem test_meets_DefineAndModifyRefusals_define :
    16 ≤ (16 : Byte).toNat ∧ (part clearRunning).svc 2 = some clearRunning ∧ (part clearRunning).svc 3 = none ∧
      -- one slot more than the largest floor
      ¬ ({ topBlock with floor := 509 } : CfgBlock).floor.toNat ≤ State.reset.inForce.f - State.reset.inForce.l ∧
      (blockInRange (block 0 0) ∧ (SvcConfig.ofBlock (block 0 0)).placed ∧
        ¬ (part clearRunning).regionFree 3 (SvcConfig.ofBlock (block 0 0))) := by
  unfold blockInRange SvcConfig.placed State.regionFree; decide +kernel

theorem test_meets_DefineAndModifyRefusals_modify :
    (State.reset.named 2 = none) ∧ (1 : Half) ≠ clearRunning.revision ∧
      (clearRunning.activity ≠ .defined ∧ selects 0x040000 18 = true) ∧
      (selects 0x020000 17 = true ∧ cfgFieldInRange { block 0 0 with z := 0 } 17 = false) ∧
      (let c := (service 0 0 .defined none).cfg.overlay 0x000001 { block 0 0 with base := 144 };
        selects 0x000001 0 = true ∧ c.placed ∧ ¬ (pair (service 0 0 .defined none)).regionFree 2 c) ∧
      (let v := service 1 0 .running (some .scrambled);
        let c := v.cfg.overlay 0x000008 { block 1 0 with floor := 508 };
        v.activity ≠ .defined ∧ selects 0x000008 3 = true ∧ c.floor ≤ 508 ∧ ¬ (part v).fits 2 c) := by
  unfold SvcConfig.placed State.regionFree State.fits; decide +kernel

theorem test_meets_SvcModifyStoresTheFields :
    (let v := service 0 0 .defined none;
      let c := v.cfg.overlay 0x07FFFF topBlock;
      (part v).svc 2 = some v ∧ blockInRange topBlock ∧ c.qmin ≤ c.qmax ∧ c.floor ≤ 512 - 4 ∧ c.placed ∧
        (part v).regionFree 2 c) ∧
      (let v := clearRunning;
        let c := v.cfg.overlay 0x000008 { block 0 0 with floor := 508 };
        (part v).svc 2 = some v ∧ (∀ i ∈ [0, 1, 2, 10, 11, 12, 18], selects 0x000008 i = false) ∧ c.qmin ≤ c.qmax ∧
          c.floor ≤ 512 - 4 ∧ selects 0x000008 3 = true ∧ (part v).fits 2 c) := by
  unfold blockInRange SvcConfig.placed State.regionFree State.fits; decide +kernel

/-- A SCRAMBLED service, DEFINED, in a period mode, with or without a key in slot 0. -/
def startable (mode : Byte) (key : Option KeySlot) : Service :=
  let v := service 1 mode .defined none;
  { v with keys := { v.keys with slot0 := key } }

theorem test_meets_SvcStartSetsTheService :
    (let v := { service 0 0 .defined none with cfg := SvcConfig.ofBlock { block 0 0 with floor := 508 } };
      (part v).svc 2 = some v ∧ v.activity = .defined ∧ (part v).fits 2 v.cfg ∧ v.cfg.protection = .clear) ∧
      (∀ m ∈ [(0 : Byte), 1, 2], ∀ k ∈ [none, some (slot 0)],
        let v := startable m k;
        (part v).svc 2 = some v ∧ v.activity = .defined ∧ (part v).fits 2 v.cfg ∧ v.cfg.protection = .scrambled) ∧
      (startable 2 none).cfg.periodMode = .clearWindow ∧
      ((startable 0 (some (slot 0))).cfg.periodMode = .repeating ∧ (startable 0 (some (slot 0))).keys.current.isSome) ∧
      ((startable 1 (some (slot 0))).cfg.periodMode = .hold ∧ (startable 1 (some (slot 0))).keys.current.isSome) ∧
      ((startable 1 none).cfg.periodMode ≠ .clearWindow ∧ (startable 1 none).keys.current = none) := by
  unfold State.fits; decide +kernel

/-- R148: a start whose lead of 12 frames is the whole period of 4 × 3 asks at once, for the next slot under REPEAT and for
the current slot in WINDOW, and marks the request. -/
theorem test_svc_start_asks_at_once :
    ∀ x ∈ [((0 : Byte), some (slot 0), Phase.one), (2, none, Phase.zero)],
      let v := { startable x.1 x.2.1 with cfg := SvcConfig.ofBlock { block 1 x.1 with lead := 12 } };
      sees (fun t => (t.requests, (t.svc 2).map fun w => w.keys.requestMark)) (exec (.svcStart 2) (part v))
        = some ([⟨2, x.2.2, false⟩], some true) := by decide +kernel

theorem test_meets_ServiceCommandRefusals :
    State.reset.named 15 = none ∧ State.reset.named 16 = none ∧ (part clearRunning).svc 2 = some clearRunning ∧
      clearRunning.activity ≠ .defined ∧
      (let v := { service 1 0 .defined none with cfg := SvcConfig.ofBlock { block 1 0 with floor := 508 } };
        v.activity = .defined ∧ (part v).svc 2 = some v ∧ ¬ (part v).fits 2 v.cfg) ∧
      (service 0 0 .draining (some .clear)).activity = .draining := by
  unfold State.fits; decide +kernel

theorem test_meets_ServiceCommandRefusals_flush :
    (holding 6).atRest ∧ 1 < (2 : Byte).toNat ∧ (holding 6).control.rx = [] ∧
      (∀ m ∈ (holding 6).control.held, m.length ≤ ((Request.svcStop 2 2).message ++ [0]).length) ∧
      (holding 6).named 3 = none ∧ (holding 6).svc 2 = some clearRunning :=
  ⟨⟨rfl, rfl⟩, by decide +kernel⟩

/-- R193: a flush byte above 1 is refused RANGE for a DRAINING service. -/
theorem test_flush_byte_out_of_range :
    sees (fun t => t.control.held)
      (exec (.portFrameEnd .control (Request.svcStop 2 2).message) (part (service 0 0 .draining (some .clear))))
      = some (some (message 0x84 [2, 1, 2, 4, 0, 0])) := by decide +kernel

theorem test_meets_SvcStopDrainsOrEnds :
    (let v := clearRunning;
      (part v).svc 2 = some v ∧ v.activity = .running ∧ v.picture = none ∧ v.queue.read = v.queue.write ∧
        v.queue.marker = none ∧ v.queue.withdrawal = none) ∧
      (let v := { service 0 0 .stalled (some .clear) with queue :=
          { read := 128, write := 128, marker := some ⟨7, false, 1⟩, withdrawal := none } };
        (part v).svc 2 = some v ∧ v.activity = .stalled ∧ v.queue.marker ≠ none) := by decide +kernel

theorem test_meets_SvcStopFlushDropsEverything :
    (packing clearRunning picture []).atRest ∧
      (packing clearRunning picture []).svc 2 = some (Coding clearRunning picture) ∧
      (Coding clearRunning picture).activity ≠ .defined ∧ (Coding clearRunning picture).picture = some picture :=
  ⟨⟨rfl, rfl⟩, by decide +kernel⟩

theorem test_meets_SvcReleaseEmptiesTheEntry :
    (let v := { service 0 0 .defined none with faults := { entries := [⟨.blackout, 1, 1⟩], more := false } };
      (part v).svc 2 = some v ∧ v.activity = .defined ∧ (part v).checks.attention = false ∧
        (∀ m, m ≠ 2 → (part v).svc m = none)) ∧
      (let s := pair (service 0 0 .defined none);
        { s with checks := { s.checks with attention := true } }.checks.attention = true) := by decide +kernel

/-! ### Banks, multiplex, lists -/

theorem test_meets_WeightsLoadAndMuxSetOutcomes_weights :
    (0 < ({ State.reset.quant with users1 := 1 } : Quantizer).users1 ∧ State.reset.quant.users1 = 0) ∧
      (∀ w ∈ (Vector.replicate 16 (4 : Byte)).toList ++ (Vector.replicate 16 (64 : Byte)).toList,
        4 ≤ w.toNat ∧ w.toNat ≤ 64) ∧
      (∀ w : Byte, w = 3 ∨ w = 65 →
        ¬ ∀ x ∈ (Vector.replicate 16 w).toList, 4 ≤ x.toNat ∧ x.toNat ≤ 64) := by
  refine ⟨by decide +kernel, by decide +kernel, ?_⟩
  rintro w (rfl | rfl) <;> decide +kernel

theorem test_meets_WeightsLoadAndMuxSetOutcomes_mux :
    ((¬ ∀ n, ∀ v ∈ (part clearRunning).svc n, v.activity = .defined) ∧
      (∀ n, ∀ v ∈ (part (service 0 0 .defined none)).svc n, v.activity = .defined)) ∧
      (∀ x ∈ [(64, 2, 1), (1024, 32, 16)],
        64 ≤ x.1 ∧ x.1 ≤ 1024 ∧ 2 ≤ x.2.1 ∧ x.2.1 ≤ 32 ∧ 1 ≤ x.2.2 ∧ x.2.2 ≤ 16) ∧
      (∀ x ∈ [(63, 2, 1), (1025, 32, 16), (64, 1, 1), (64, 33, 1), (64, 2, 0), (64, 2, 17)],
        ¬ (64 ≤ x.1 ∧ x.1 ≤ 1024 ∧ 2 ≤ x.2.1 ∧ x.2.1 ≤ 32 ∧ 1 ≤ x.2.2 ∧ x.2.2 ≤ 16)) :=
  ⟨by decide +kernel, by decide, by decide⟩

theorem test_meets_UsedBanksAndCurrentKeysStand :
    (let s := packing clearRunning picture [];
      s.frameDue = [] ∧ isLineCommand .reset = false ∧ (∃ t, exec .reset s = .next t) ∧ 0 < s.quant.users .zero) ∧
      (let v := keyed 1 1 .scrambled;
        (part v).frameDue = [] ∧ (∃ t, exec (.keyLoad 2 1 0 0 [1]) (part v) = .next t) ∧ (part v).svc 2 = some v ∧
          v.keys.current.isSome = true) :=
  ⟨⟨rfl, rfl, ⟨_, rfl⟩, by decide +kernel⟩, rfl, ⟨_, rfl⟩, by decide +kernel⟩

theorem test_meets_ResetEmptiesTheServices : (packing clearRunning picture [.picTail 2 7]).atRest := ⟨rfl, rfl⟩

theorem test_meets_FaultsReadReportsTheList :
    State.reset.atRest ∧ State.reset.named 2 = none ∧ (part clearRunning).svc 2 = some clearRunning :=
  ⟨⟨rfl, rfl⟩, by decide +kernel⟩

/-- Two services with a fault each. -/
def faulty : State :=
  let l : FaultList := { entries := [⟨.strayInput, 300, 255⟩], more := false };
  (pair { clearRunning with faults := l }).modSvc 3 fun v => { v with faults := l }

theorem test_meets_FaultsAckAndCheckCommands :
    State.reset.named 16 = none ∧ (part clearRunning).svc 2 = some clearRunning ∧
      (∃ m, m ≠ 2 ∧ ∃ w ∈ faulty.svc m, w.faults.entries ≠ []) ∧ faulty.faulted = [2, 3] ∧
      (¬ ∃ m, m ≠ 2 ∧ ∃ w ∈ (part clearRunning).svc m, w.faults.entries ≠ []) ∧ 3 < (4 : Byte).toNat ∧
      (3 : Byte).toNat ≤ 3 := by decide +kernel

theorem test_meets_Queries :
    faulty.atRest ∧ (part clearRunning).atRest ∧ (part clearRunning).svc 2 = some clearRunning ∧
      -- MUX_QUERY's clause about the period start, with one, an odd and the largest A, before and after the first frame
      (∀ a ∈ [1, 3, 16], ∀ begun ∈ [false, true],
        let s : State := { State.reset with frameBegun := begun, frameStruct := ⟨512, 4, a⟩ };
        s.atRest ∧ s.adoptionPending = false ∧ 1 ≤ s.frameStruct.a ∧ s.frameStruct.a ≤ 16) ∧
      -- KEY_STATUS's clauses: a selector out of range, both selectors in range, no service
      1 < (2 : Byte).toNat ∧ (1 : Byte).toNat ≤ 1 ∧ (0 : Byte).toNat ≤ 1 ∧ State.reset.named 2 = none :=
  by unfold State.atRest; decide +kernel

/-! ### Keys -/

/-- A service in BLACKOUT with an empty current slot, in a period mode, with a lead. -/
def dark (mode lead : Byte) (next : Option KeySlot) : Service :=
  let v := service 1 mode .running (some .blackout);
  { v with cfg := SvcConfig.ofBlock { block 1 mode with lead := lead }, keys := { v.keys with slot1 := next } }

theorem test_meets_KeyLoadStoresTheKeyAndEndsBlackout :
    (let v := keyed 1 1 .scrambled;
      (part v).svc 2 = some v ∧ v.cfg.protection = .scrambled ∧ 1 ≤ (List.replicate 92 (0 : Byte)).length ∧
        (List.replicate 92 (0 : Byte)).length ≤ 92 ∧ (Phase.one = v.keys.phase → v.keys.current = none) ∧
        ¬ (v.activity ≠ .defined ∧ Phase.one = v.keys.phase ∧ v.keys.prot = some .blackout)) ∧
      (∀ v ∈ [dark 1 5 none, dark 0 11 none, dark 0 12 none, dark 2 12 (some (slot 0)),
          { dark 0 5 none with activity := .draining }],
        (part v).svc 2 = some v ∧ v.cfg.protection = .scrambled ∧ v.activity ≠ .defined ∧
          v.keys.prot = some .blackout ∧ 1 ≤ [(0 : Byte)].length ∧ v.keys.current = none) ∧
      (dark 1 5 none).cfg.periodMode = .hold ∧
      ((dark 0 11 none).cfg.periodMode ≠ .hold ∧ (dark 0 11 none).cfg.lead < 4 * 3) ∧
      ((dark 0 12 none).cfg.p * (dark 0 12 none).cfg.c ≤ (dark 0 12 none).cfg.lead ∧ (dark 0 12 none).keys.next = none) ∧
      (dark 2 12 (some (slot 0))).keys.next.isSome = true := by decide +kernel

/-- R144, R148: an exit from BLACKOUT with a lead of the whole period asks for the next slot; a DRAINING service without
anything left to send becomes DEFINED at the exit (notes/assumptions/25.md). -/
theorem test_key_load_ends_blackout :
    sees (fun t => ((t.svc 2).map fun w => (w.keys.prot, w.keys.timer, w.keys.requestMark), t.requests))
        (exec (.keyLoad 2 0 0 5 [1]) { part (dark 0 12 none) with requests := [⟨2, .zero, true⟩], keyAttn := true })
      = some (some (some .scrambled, ⟨4, 3⟩, true), [⟨2, .one, false⟩]) ∧
    sees (fun t => ((t.svc 2).map fun w => (w.activity, w.keys.prot, w.keys.slot0.isSome), t.requests))
        (exec (.keyLoad 2 0 0 5 [1]) (part { dark 0 12 none with activity := .draining }))
      = some (some (.defined, none, true), []) := ⟨by decide +kernel, by decide +kernel⟩

theorem test_meets_KeyCommandRefusals :
    State.reset.named 2 = none ∧ clearRunning.cfg.protection = .clear ∧
      (let v := keyed 1 1 .scrambled;
        v.cfg.protection = .scrambled ∧ (1 : Half) ≠ v.keys.generation ∧ (0 : Half) = v.keys.generation ∧
          1 < (2 : Byte).toNat ∧ ([] : List Byte).length = 0 ∧ 92 < (List.replicate 93 (0 : Byte)).length ∧
          (0 : Byte) = v.keys.phase.byte ∧ v.keys.current.isSome = true) := by decide +kernel

theorem test_meets_KeyClearEmptiesTheSlot :
    (∀ x ∈ [ProtState.window, .scrambled, .deferred, .late], let v := keyed 1 1 x;
      (part v).svc 2 = some v ∧ v.cfg.protection = .scrambled ∧ v.keys.prot = some x ∧ Phase.zero = v.keys.phase ∧
        v.keys.current.isSome = true) ∧
      (dark 0 5 none).keys.prot = some .blackout ∧ (keyed 1 1 .late).keys.prot ≠ some .blackout ∧
      Phase.one ≠ (keyed 1 1 .late).keys.phase := by decide +kernel

theorem test_meets_KeyPurgeEmptiesEverySlot :
    (part (keyed 1 1 .late)).atRest ∧ (part (keyed 1 1 .late)).svc 2 = some (keyed 1 1 .late) ∧
      ((keyed 1 1 .late).activity ≠ .defined ∧ (keyed 1 1 .late).cfg.protection = .scrambled) ∧
      (part (keyed 1 1 .late)).svc 3 = none ∧ clearRunning.cfg.protection = .clear :=
  ⟨⟨rfl, rfl⟩, by decide +kernel⟩

/-! ### Link and Packer -/

theorem test_meets_BurstReadsBackItsRecord :
    (15 : Byte).toNat = (15 : Svc).val ∧
      (be16 7 ++ [(0 : Byte), ((1 : BitVec 1) ++ (68 : BitVec 7) : Byte), ((0 : BitVec 1) ++ (120 : BitVec 7) : Byte)]
        ++ be16 0xFFFF).length ≤ 193 ∧
      (let data : List (List (BitVec 12 × BitVec 12)) := List.replicate 8 (List.replicate 8 (0x7FF, 0x800));
        1 ≤ data.length ∧ data.length ≤ 8 ∧ (∀ d ∈ data, d.length = 8) ∧
          (byteOf data.length :: (data.flatMap fun d => d.flatMap fun x =>
            [x.1.extractLsb' 4 8, (x.1.extractLsb' 0 4 ++ x.2.extractLsb' 8 4 : Byte), x.2.extractLsb' 0 8])).length
            = 193) ∧
      (be16 7).length ≤ 193 := by decide +kernel

/-- The PIC_TAIL of picture 7 for a service. -/
def tailBurst (n : Byte) : List Byte :=
  let front : List Byte := [0x03, n, 0x00, 0x02, 0x00, 0x07];
  front ++ be16 (crc16 front)

/-- A burst of a kind, a service and a body, with its CRC. -/
def sealed (kind svc : Byte) (body : List Byte) : List Byte :=
  let front : List Byte := kind :: svc :: (be16Of body.length ++ body);
  front ++ be16 (crc16 front)

/-- Bursts that cannot be read (R22, R192): fewer than 6 bytes, a length field that is not the length, a failed CRC, an
unknown kind, a service above 15, a body of another length, BLOCKS with n = 0, a head of an unknown kind. -/
def unreadable : List (List Byte) :=
  [[], [0x03, 0x02, 0x00, 0x02, 0x00], tailBurst 2 ++ [0], (tailBurst 2).set 5 8, sealed 0 2 [0, 7], sealed 4 2 [0, 7],
    tailBurst 16, sealed 3 2 [0, 7, 0], sealed 1 2 [0, 7, 0, 1, 1, 0], sealed 2 2 [0], sealed 2 2 (1 :: List.replicate 23 0),
    sealed 1 2 [0, 7, 2, 1, 1, 0, 0]]

theorem test_meets_LinkArrivalOutcomes :
    (({ State.reset with credits := 0 } : State).credits = 0 ∧ 0 < State.reset.credits) ∧
      (∀ b ∈ unreadable, burstUnreadable b) ∧
      readBurst (tailBurst 2) = some (.picTail 2 7) ∧ State.reset.svc 2 = none ∧
      (part clearRunning).svc 2 = some clearRunning ∧ clearRunning.activity ≠ .defined ∧
      0 < ({ part clearRunning with credits := 1 } : State).credits := by
  unfold burstUnreadable; decide +kernel

theorem test_meets_LinkArrivalOutcomes_nine_blocks :
    burstUnreadable ([2, 2, 0, 217, 9] ++ List.replicate 216 0 ++ [0, 0]) :=
  .inr (.inr (.inr (.inr (.inr (.inr (.inl ⟨rfl, .inr (.inl (by decide))⟩))))))

/-- R22: each of these bursts records LINK_CRC, admits nothing, and has its credit returned at once. -/
theorem test_link_unreadable :
    ∀ b ∈ unreadable,
      sees (fun t => (t.checks.flags, t.ingestQueue, t.credits, t.clCredit)) (exec (.linkMessageArrival b) (part clearRunning))
        = some (8, [], 64, 1) := by decide +kernel

/-- The part with a record waiting. -/
def waiting (v : Service) (r : Record) : State := { part v with ingestQueue := [r], credits := 63 }

theorem test_meets_PicHeadOpensAPicture_open :
    ∀ v ∈ [clearRunning, service 0 0 .stalled (some .clear), service 0 0 .draining (some .clear)],
      ∀ x ∈ [(1, 1), (68, 120)],
      let s := waiting v (.picHead 2 7 .intra x.1 x.2 0);
      s.rstAsserted = false ∧ s.frameDue = [] ∧ s.packer = none ∧
        s.ingestQueue = .picHead 2 7 .intra x.1 x.2 0 :: [] ∧
        ({ s with packer := some ⟨.picHead 2 7 .intra x.1 x.2 0, .opening⟩ } : State).packer
          = some { record := .picHead 2 7 .intra x.1 x.2 0, phase := .opening } ∧ s.svc 2 = some v ∧
        v.activity ≠ .defined ∧ v.picture = none ∧ v.queue.marker = none ∧
        v.queue.withdrawal = none ∧ 1 ≤ x.1 ∧ x.1 ≤ 68 ∧ 1 ≤ x.2 ∧ x.2 ≤ 120 ∧ v.cfg.qmin ≤ v.cfg.qmax := by
  decide +kernel

/-- R16, R39: a head is judged at its take; taken from a RUNNING service it waits to open its picture, and opens it for the
service stopped since. -/
theorem test_pic_head_judged_at_its_take :
    let r : Record := .picHead 2 7 .intra 1 1 0;
    sees (fun t => t.packer) (exec (.picHead 0) (waiting clearRunning r)) = some (some ⟨r, .opening⟩) ∧
    sees (fun t => (t.svc 2).map fun w => (w.activity, w.picture.isSome, w.faults.entries.length))
        (exec (.packerRecordWork 1) { part (service 0 0 .draining (some .clear)) with packer := some ⟨r, .opening⟩ })
      = some (some (.draining, true, 0)) ∧
    sees (fun t => (t.svc 2).map fun w => (w.picture.isSome, w.faults.entries.map fun e => e.code))
        (exec (.picHead 1) (waiting (service 0 0 .draining (some .clear)) r))
      = some (some (false, [.strayInput])) := by decide +kernel

theorem test_meets_PicHeadOpensAPicture_forced :
    let v := Coding clearRunning picture;
    let s := waiting v (.picHead 2 8 .intra 0 121 0);
    s.rstAsserted = false ∧ s.frameDue = [] ∧ s.packer = none ∧ s.ingestQueue = .picHead 2 8 .intra 0 121 0 :: [] ∧
      s.svc 2 = some v ∧ v.activity = .running ∧ v.ingest.state = .inPicture picture ∧ v.queue.marker = none ∧
      v.queue.withdrawal = none := by decide +kernel

/-- A service with a marker pending of a loss of 254 pictures, and its ring full or empty. -/
def blocked (full : Bool) : Service :=
  { clearRunning with queue :=
    { read := 130, write := if full then 129 else 130, marker := some ⟨52, true, 254⟩, withdrawal := none } }

theorem test_meets_PicHeadOpensAPicture_marker :
    (∀ full ∈ [false, true],
      let s := waiting (blocked full) (.picHead 2 8 .intra 68 120 0);
      s.rstAsserted = false ∧ s.frameDue = [] ∧ s.packer = none ∧ s.ingestQueue = .picHead 2 8 .intra 68 120 0 :: [] ∧
        s.svc 2 = some (blocked full) ∧ (blocked full).activity = .running ∧ (blocked full).picture = none ∧
        (blocked full).queue.marker = some ⟨52, true, 254⟩ ∧ (blocked full).queue.withdrawal = none) ∧
      (blocked true).ringLength = 2 ^ (blocked true).cfg.k - 1 ∧
      (blocked false).ringLength ≠ 2 ^ (blocked false).cfg.k - 1 := by decide +kernel

/-- R91: a head behind a blocked marker is abandoned at its open; R26: a head that finds a picture open closes it, and is
then refused for its format. -/
theorem test_pic_head_abandoned_or_closing :
    sees (fun t => (t.svc 2).map fun w => (w.queue.marker, w.faults.entries.map fun e => e.code, w.ingest.state))
        (exec (.picHead 1) (waiting (blocked true) (.picHead 2 8 .intra 68 120 0)))
      = some (some (some ⟨52, true, 255⟩, [.queueOverflow], .discarding)) ∧
    sees (fun t => (t.svc 2).map fun w => (w.faults.entries.map fun e => e.code, w.ingest.state, w.stats.isSome))
        (exec (.picHead 7) (packing clearRunning picture [.picHead 2 8 .intra 0 1 0]))
      = some (some ([.pictureUnclosed, .pictureShort, .pictureFormat], .discarding, true)) := by decide +kernel

theorem test_meets_RecordsWithoutAPicture :
    (let s := waiting clearRunning (.blocks 3 []);
      s.atRest ∧ s.packer = none ∧ s.ingestQueue = .blocks 3 [] :: [] ∧ s.svc 3 = none) ∧
      (let s := { waiting clearRunning (.blocks 3 []) with packer := some ⟨.picHead 2 7 .intra 0 1 0, .opening⟩ };
        s.packer = some { record := .picHead 2 7 .intra 0 1 0, phase := .opening } ∧ s.packer ≠ none ∧
          s.svc 2 = some clearRunning ∧ clearRunning.picture = none) ∧
      (let v := clearRunning.setIngest .discarding;
        (waiting v (.blocks 2 [])).svc 2 = some v ∧ v.activity ≠ .defined ∧ v.queue.marker = none ∧
          v.queue.withdrawal = none ∧ v.ingest.state = .discarding) ∧
      (waiting clearRunning (.picTail 2 7)).svc 2 = some clearRunning ∧ clearRunning.ingest.state = .idle ∧
      ((Coding clearRunning picture).picture = some picture ∧ (8 : Half) ≠ picture.number) ∧
      (service 0 0 .draining (some .clear)).activity = .draining ∧
      (∀ x ∈ [(0, 1), (69, 1), (1, 0), (1, 121)], ¬ (1 ≤ x.1 ∧ x.1 ≤ 68 ∧ 1 ≤ x.2 ∧ x.2 ≤ 120)) :=
  ⟨⟨⟨rfl, rfl⟩, by decide +kernel⟩, by decide +kernel⟩

/-- A block whose code is one bit. -/
def emptyBlock : Block := List.replicate 16 0

theorem test_meets_BlockIsCodedIntoThePicture :
    -- no stripe and no cell filled; a stripe begun by a block that fills the cell, with room and with a full ring
    (∀ x ∈ [(3, 734, 130), (2, 735, 130), (2, 735, 129)],
      let p := { picture with blocksCoded := x.1, cell := { picture.cell with bits := List.replicate x.2.1 true } };
      let v := { Coding clearRunning p with queue := { clearRunning.queue with read := 130, write := x.2.2 } };
      let s : State := { part v with ingestQueue := [.blocks 2 [emptyBlock]], credits := 63 };
      s.rstAsserted = false ∧ s.frameDue = [] ∧ s.svc 2 = some v ∧ v.activity ≠ .defined ∧
        v.ingest.state = .inPicture p ∧ v.queue.marker = none ∧ v.queue.withdrawal = none ∧
        p.blocksCoded < p.stripes * p.blocksPerStripe ∧ p.cell.bits.length < 736 ∧ p.steps.length = 16 ∧
        (∀ step ∈ p.steps, 1 ≤ step) ∧ p.rndIntra ≤ 4 ∧ p.rndPred ≤ 4 ∧ p.qmin ≤ p.qmax ∧ s.packer = none ∧
        s.ingestQueue = .blocks 2 [emptyBlock] :: []) ∧
      -- an excess block, the first of its record or a later one
      (∀ excess ∈ [false, true],
        let p := { picture with blocksCoded := 4 };
        let s : State := { packing clearRunning p [] with
          packer := some ⟨.blocks 2 [emptyBlock], .coding [emptyBlock] excess⟩ };
        s.rstAsserted = false ∧ s.frameDue = [] ∧ s.svc 2 = some (Coding clearRunning p) ∧
          p.stripes * p.blocksPerStripe ≤ p.blocksCoded ∧
          s.packer = some { record := .blocks 2 [emptyBlock], phase := .coding (emptyBlock :: []) excess }) ∧
      (∃ t, exec (.packerRecordWork 1) (packing clearRunning picture []) = .next t) :=
  ⟨by decide +kernel, by decide +kernel, _, rfl⟩

/-- R66, R67, R85: a stripe begun with fewer than 4 free cells is coded under qmax; a block that fills a cell against a
full ring abandons the picture. -/
theorem test_stripe_and_overflow :
    (let v := { Coding clearRunning { picture with blocksCoded := 2 } with
        queue := { clearRunning.queue with read := 130, write := 142 } };
      sees (fun t => (t.picture 2).map fun p => [p.qs, p.qsSum, p.emergency.toNat, p.bitsSpent, p.steps.headD 0])
          (exec (.blocks 2) (waiting v (.blocks 2 [emptyBlock]))) = some (some [40, 52, 1, 45, 40])) ∧
      (let p := { picture with blocksCoded := 1, cell := { picture.cell with bits := List.replicate 735 true } };
        let v := { Coding clearRunning p with queue := { clearRunning.queue with read := 130, write := 129 } };
        sees (fun t => (t.svc 2).map fun w => (w.queue.marker, w.faults.entries.map fun e => e.code, w.ingest.state))
            (exec (.blocks 2) (waiting v (.blocks 2 [emptyBlock])))
          = some (some (some ⟨7, false, 1⟩, [.queueOverflow], .discarding))) := by decide +kernel

theorem test_meets_PicTailClosesThePicture_end :
    -- a last cell of 38 bits, and no bits left in the partial cell against a full ring; RUNNING and DRAINING
    (∀ a ∈ [Activity.running, .draining], ∀ x ∈ [(38, 130), (0, 129)],
      let p := { picture with blocksCoded := 4, saturated := true, cell := { start := true, bits := List.replicate x.1 true } };
      let v := { Coding clearRunning p with activity := a, queue := { clearRunning.queue with read := 130, write := x.2 } };
      let s := waiting v (.picTail 2 7);
      s.rstAsserted = false ∧ s.frameDue = [] ∧ s.svc 2 = some v ∧ v.activity ≠ .defined ∧
        v.ingest.state = .inPicture p ∧ v.queue.withdrawal = none ∧ p.blocksCoded = p.stripes * p.blocksPerStripe ∧
        (p.cell.bits = [] ∨ v.ringLength ≠ 2 ^ v.cfg.k - 1) ∧ v.queue.marker = none ∧ s.packer = none ∧
        s.ingestQueue = .picTail 2 p.number :: []) ∧
      (let s : State := { part clearRunning with packer := some ⟨.picTail 2 7, .closing true⟩ };
        s.packer = some { record := .picTail 2 7, phase := .closing true }) ∧
      (let s : State := { part clearRunning with packer := some ⟨.picHead 2 8 .intra 1 1 0, .closing true⟩ };
        s.packer = some { record := .picHead 2 8 .intra 1 1 0, phase := .closing true }) := by decide +kernel

theorem test_meets_PicTailClosesThePicture_missing :
    -- a missing block that begins no stripe, and one that begins the second and fills the cell
    (∀ x ∈ [(0, 38), (2, 735)],
      let p := { picture with blocksCoded := x.1, cell := { start := true, bits := List.replicate x.2 true } };
      let v := Coding clearRunning p;
      let s : State := { part v with packer := some ⟨.picTail 2 7, .closing false⟩ };
      s.rstAsserted = false ∧ s.frameDue = [] ∧ s.svc 2 = some v ∧ v.activity ≠ .defined ∧
        v.ingest.state = .inPicture p ∧ p.blocksCoded < p.stripes * p.blocksPerStripe ∧ p.cell.bits.length < 736 ∧
        (Record.picTail 2 7).service = 2 ∧ s.packer = some { record := .picTail 2 7, phase := .closing false } ∧
        v.ringLength ≠ 2 ^ v.cfg.k - 1) := by decide +kernel

/-- R4, R83: the close of a DRAINING service's picture that appends nothing to an empty ring ends the drain, but not in
BLACKOUT (R5, R143). -/
theorem test_pic_tail_ends_the_drain :
    ∀ x ∈ [(ProtState.scrambled, (Activity.defined, (none : Option ProtState))), (.blackout, (.draining, some .blackout))],
      let p := { picture with blocksCoded := 4, cell := { start := false, bits := [] }, firstCell := .sent 128 };
      let v := Coding { keyed 1 1 x.1 with activity := .draining } p;
      sees (fun t => ((t.svc 2).map fun w => ((w.activity, w.keys.prot), w.queue.write), t.credits))
          (exec (.picTail 2) (waiting v (.picTail 2 7)))
        = some (some (x.2, 128), 64) := by decide +kernel

/-- An open picture with blocks coded, a partial cell of some bits, and the fields of its first cell. -/
def full (coded bits : Nat) (f : FirstCell) : OpenPicture :=
  { picture with blocksCoded := coded, cell := { start := true, bits := List.replicate bits true }, firstCell := f }

/-- A service with that picture open and a full ring. -/
def crowded (coded bits : Nat) (f : FirstCell) : Service :=
  let v := Coding clearRunning (full coded bits f);
  { v with queue := { v.queue with read := 130, write := 129 } }

theorem test_meets_PicTailOverflowsAFullRing :
    -- the last cell of a coded picture, and a missing block that fills a cell, with and without a stripe header
    (∀ f ∈ [FirstCell.unwritten, .queued 130, .sent 128], ∀ x ∈ [(4, 1), (1, 735), (2, 729)],
      let v := crowded x.1 x.2 f;
      let p := full x.1 x.2 f;
      let s := waiting v (.picTail 2 7);
      s.rstAsserted = false ∧ s.frameDue = [] ∧ s.svc 2 = some v ∧ v.ingest.state = .inPicture p ∧
        v.queue.withdrawal = none ∧ v.ringLength = 2 ^ v.cfg.k - 1 ∧ v.activity ≠ .defined ∧ v.queue.marker = none ∧
        s.packer = none ∧ s.ingestQueue = .picTail 2 p.number :: []) ∧
      ((full 4 1 .unwritten).blocksCoded = 2 * 2 ∧ (full 4 1 .unwritten).cell.bits ≠ []) ∧
      ((full 1 735 .unwritten).blocksCoded < 2 * 2 ∧ 736 ≤ (full 1 735 .unwritten).cell.bits.length + 1) ∧
      ((full 2 729 .unwritten).blocksCoded % 2 = 0 ∧ 736 ≤ (full 2 729 .unwritten).cell.bits.length + 7) ∧
      (∀ r ∈ [Record.picTail 2 7, .picHead 2 8 .intra 1 1 0],
        ({ part (crowded 4 1 .unwritten) with packer := some ⟨r, .closing true⟩ } : State).packer
          = some { record := r, phase := .closing true }) := by decide +kernel

/-- R33, R86: the overflow of a forced close leaves DISCARDING and the head to be judged, after the withdrawal if one is in
flight; a missing block's cell overflows in the same way, without PICTURE_SHORT. -/
theorem test_forced_close_overflow :
    (∀ x ∈ [(4, 1, FirstCell.unwritten, WorkPhase.opening, [FaultCode.pictureShort, .queueOverflow]),
        (4, 1, .queued 130, .held false, [.pictureShort, .queueOverflow]),
        (2, 729, .sent 128, .held false, [.queueOverflow])],
      sees (fun t => ((t.svc 2).map fun w => (w.ingest.state, w.faults.entries.map fun e => e.code),
            t.packer.map fun w => w.phase))
          (exec (.packerRecordWork 1)
            { part (crowded x.1 x.2.1 x.2.2.1) with packer := some ⟨.picHead 2 8 .intra 1 1 0, .closing true⟩ })
        = some (some (.discarding, x.2.2.2.2), some x.2.2.2.1)) := by decide +kernel

/-- 05_cell_queues_and_picture_abandonment.md: an append that finds the ring full abandons the picture. -/
theorem test_pic_tail_overflow :
    sees (fun t => ((t.svc 2).map fun w => (w.queue.withdrawal, w.faults.entries.map fun e => e.code), t.credits))
      (exec (.picTail 2) (waiting (crowded 4 38 (.sent 128)) (.picTail 2 7)))
      = some (some (some ⟨7, .sent 128⟩, [.queueOverflow]), 64) := by decide +kernel

/-- A service with a withdrawal in flight. -/
def leaving (read write : Nat) (f : FirstCell) : Service :=
  { (clearRunning.setIngest .discarding) with queue :=
    { read := read, write := write, marker := none, withdrawal := some ⟨52, f⟩ } }

/-- A service whose abandoned picture left a marker. -/
def marked : Service :=
  { (clearRunning.setIngest .discarding) with queue :=
    { read := 134, write := 134, marker := some ⟨52, true, 255⟩, withdrawal := none } }

/-- The part with a record held. -/
def holdingRecord (v : Service) (r : Record) (draining : Bool) : State :=
  { part v with packer := some { record := r, phase := .held draining } }

theorem test_meets_WithdrawalAndHeldRecord :
    (∀ v ∈ [leaving 134 134 (.sent 141), leaving 130 134 .unwritten, leaving 130 134 (.queued 134)],
      (part v).svc 2 = some v ∧ ∃ w, v.queue.withdrawal = some w ∧
        (v.queue.read = v.queue.write ∨ w.firstCell = .unwritten ∨ w.firstCell = .queued v.queue.write)) ∧
      (let v := leaving 129 128 (.sent 141);
        (part v).svc 2 = some v ∧ v.queue.withdrawal = some ⟨52, .sent 141⟩ ∧ v.queue.read ≠ v.queue.write) := by
  refine ⟨?_, by decide +kernel⟩
  intro v hv
  simp only [List.mem_cons, List.not_mem_nil, or_false] at hv
  rcases hv with rfl | rfl | rfl
  · exact ⟨by decide +kernel, _, rfl, by decide +kernel⟩
  · exact ⟨by decide +kernel, _, rfl, by decide +kernel⟩
  · exact ⟨by decide +kernel, _, rfl, by decide +kernel⟩

theorem test_meets_WithdrawalAndHeldRecord_held :
    -- a record taken during a withdrawal, and one held: withdrawal in flight, marker and room, ring full, no marker,
    -- DISCARDING and IDLE, and a service that is DEFINED
    (let v := leaving 129 128 (.sent 141);
      let s := waiting v (.picTail 2 7);
      s.rstAsserted = false ∧ s.frameDue = [] ∧ s.packer = none ∧ s.ingestQueue = .picTail 2 7 :: [] ∧
        s.svc 2 = some v ∧ v.activity ≠ .defined ∧ v.queue.withdrawal.isSome = true) ∧
      (∀ v ∈ [marked, blocked true, clearRunning.setIngest .discarding, clearRunning, leaving 129 128 (.sent 141)],
        ∀ r ∈ [Record.blocks 2 [], .picTail 2 7, .picHead 2 8 .intra 68 120 0, .picHead 2 8 .intra 69 120 0],
        ∀ draining ∈ [false, true],
        let s := holdingRecord v r draining;
        s.rstAsserted = false ∧ s.frameDue = [] ∧ s.packer = some { record := r, phase := .held draining } ∧
          r.service = 2 ∧ s.svc 2 = some v ∧ v.activity ≠ .defined ∧ v.picture = none) ∧
      (marked.queue.withdrawal = none ∧ marked.queue.marker = some ⟨52, true, 255⟩ ∧
        marked.ringLength ≠ 2 ^ marked.cfg.k - 1) ∧
      ((blocked true).queue.withdrawal = none ∧ (blocked true).ringLength = 2 ^ (blocked true).cfg.k - 1) ∧
      (clearRunning.queue.marker = none ∧ clearRunning.ingest.state = .idle) ∧
      (∀ v ∈ (holdingRecord (service 0 0 .defined none) (.blocks 2 []) false).svc 2, v.activity = .defined) := by
  decide +kernel

/-- R26, R34, R86: a record taken during a withdrawal is held; afterwards a held PIC_TAIL in DISCARDING leaves IDLE, and a
held PIC_HEAD opens its picture behind the marker's GAP cell, unless the service was DRAINING at its take. -/
theorem test_held_tail_and_head :
    sees (fun t => (t.packer.map fun w => w.phase, t.ingestQueue))
        (exec (.picTail 3) (waiting { leaving 129 128 (.sent 141) with activity := .draining } (.picTail 2 7)))
      = some (some (.held true), []) ∧
    sees (fun t => ((t.svc 2).map fun w => (w.ingest.state, w.queue.write), t.packer))
        (exec (.heldRecordResume 0) (holdingRecord marked (.picTail 2 7) false)) = some (some (.idle, 135), none) ∧
    sees (fun t => ((t.svc 2).map fun w => (w.picture.isSome, w.queue.write), t.packer))
        (exec (.heldRecordResume 1) (holdingRecord marked (.picHead 2 8 .intra 1 1 0) false))
      = some (some (true, 135), none) ∧
    sees (fun t => (t.svc 2).map fun w => w.faults.entries.map fun e => e.code)
        (exec (.heldRecordResume 1) (holdingRecord marked (.picHead 2 8 .intra 1 1 0) true))
      = some (some [.strayInput]) := by decide +kernel

/-! ### Frame starts and expiries -/

theorem test_meets_FrameStartBeginsTheFrame :
    (part clearRunning).atRest ∧ (part clearRunning).slotIndex = 0 ∧ (part clearRunning).svc 2 = some clearRunning ∧
      (clearRunning.activity = .running ∧ clearRunning.ingest.expired = false ∧
        clearRunning.ingest.silence + 1 < clearRunning.cfg.z) ∧
      (let v := { clearRunning with ingest := { clearRunning.ingest with silence := 4 } };
        v.ingest.expired = false ∧ v.cfg.z ≤ v.ingest.silence + 1) ∧
      ¬ (service 0 0 .stalled (some .clear)).activity = .running :=
  ⟨⟨rfl, rfl⟩, by decide +kernel⟩

/-- A service with its timer before its last step, or before the step that meets the lead, next slot empty. -/
def timing (mode : Byte) (prot : ProtState) (t : PeriodTimer) : Service :=
  let v := service 1 mode .running (some prot);
  { v with keys := { v.keys with timer := t, slot0 := some (slot 1), windowSpent := true, countdown := 1 } }

theorem test_meets_FrameStartBeginsTheFrame_keys :
    -- BLACKOUT, and neither participant nor SCRAMBLED
    ((dark 0 5 none).keys.prot = some .blackout ∧ (startable 0 none).activity = .defined ∧
      clearRunning.cfg.protection = .clear) ∧
      -- timers: REPEAT, a spent window, and WINDOW; the lead of 5 met, and the expiry
      (∀ v ∈ [timing 0 .scrambled ⟨2, 2⟩, timing 2 .scrambled ⟨1, 1⟩, timing 2 .window ⟨1, 1⟩],
        (part v).svc 2 = some v ∧ v.activity ≠ .defined ∧ v.cfg.protection = .scrambled ∧ v.keys.hasKey = true ∧
          v.keys.countdown ≤ 1) ∧
      ((timing 0 .scrambled ⟨2, 2⟩).cfg.periodMode = .repeating ∧ (2 - 1) * 4 + (2 - 1) = 5 ∧
        (timing 0 .scrambled ⟨2, 2⟩).keys.slot .one = none ∧ (timing 0 .scrambled ⟨2, 2⟩).keys.requestMark = false) ∧
      (timing 2 .scrambled ⟨1, 1⟩).cfg.periodMode = .clearWindow ∧ (timing 2 .window ⟨1, 1⟩).keys.prot = some .window ∧
      -- waiting services, ready and not
      (∀ v ∈ [keyed 1 2 .deferred, keyed 1 2 .late, { keyed 1 2 .scrambled with cfg := (dark 1 5 none).cfg }],
        v.keys.next.any (fun x => v.cfg.nmin ≤ x.sent) = true) ∧
      (∀ v ∈ [keyed 1 1 .deferred, keyed 1 1 .late, timing 1 .scrambled ⟨4, 3⟩],
        v.keys.next.any (fun x => v.cfg.nmin ≤ x.sent) = false) := by decide +kernel

/-- R139, R148: the lead of 5 is met by the step to 5 remaining frames; DEFERRED without a ready key counts. -/
theorem test_frame_start_lead_and_deferral :
    sees (fun t => (t.requests, (t.svc 2).map fun w => (w.keys.timer, w.keys.requestMark)))
        (exec (.frameStart [] []) (part (timing 0 .scrambled ⟨2, 2⟩)))
      = some ([⟨2, .one, false⟩], some (⟨1, 2⟩, true)) ∧
    (let v := keyed 1 1 .deferred;
      sees (fun t => ((t.svc 2).map fun w => w.keys.deferral, t.frameDue.contains (.deferral 2)))
          (exec (.frameStart [] []) (part { v with keys := { v.keys with deferral := 2 } }))
        = some (some 3, true)) := by decide +kernel

/-- A state with one piece of outstanding work. -/
def due (v : Service) (w : FrameWork) : State := { part v with frameDue := [w] }

theorem test_meets_SilenceExpiryStallsTheService :
    (∀ v ∈ [clearRunning, Coding clearRunning picture, Coding clearRunning { picture with firstCell := .queued 128 }],
      ∀ w ∈ [none, some (⟨.picTail 2 7, .closing true⟩ : PackerWork), some ⟨.picHead 2 8 .intra 1 1 0, .closing false⟩,
        some ⟨.blocks 2 [emptyBlock], .coding [emptyBlock] false⟩],
      let s := { due v (.silence 2) with packer := w };
      s.rstAsserted = false ∧ .silence 2 ∈ s.frameDue ∧ s.svc 2 = some v ∧ v.queue.withdrawal = none) ∧
      clearRunning.picture = none ∧ (Coding clearRunning picture).ingest.state = .inPicture picture ∧
      picture.firstCell = .unwritten ∧ ({ picture with firstCell := .queued 128 } : OpenPicture).firstCell ≠ .unwritten ∧
      (let s : State := { part clearRunning with packer := some ⟨.blocks 2 [emptyBlock], .coding [emptyBlock] false⟩ };
        s.rstAsserted = false ∧ s.frameDue = [] ∧ ∀ v ∈ s.svc 2, v.picture = none) := by
  decide +kernel

/-- R37: an expiry during the close by the picture's own tail leaves IDLE, one during a forced close DISCARDING with the
head to be judged after the withdrawal. -/
theorem test_silence_expiry_during_a_close :
    let s := due (Coding clearRunning { picture with firstCell := .queued 128 }) (.silence 2);
    sees (fun t => ((t.svc 2).map fun w => (w.ingest.state, w.stats), t.packer.map fun w => w.phase))
        (exec (.silenceExpiry 2) { s with packer := some ⟨.picTail 2 7, .closing true⟩ })
      = some (some (.idle, none), some .passing) ∧
    sees (fun t => ((t.svc 2).map fun w => w.ingest.state, t.packer.map fun w => w.phase))
        (exec (.silenceExpiry 2) { s with packer := some ⟨.picHead 2 8 .intra 1 1 0, .closing true⟩ })
      = some (some .discarding, some (.held false)) := by decide +kernel

theorem test_meets_PeriodExpiryChangesOverOrDefers :
    (∀ v ∈ [keyed 1 2 .scrambled, keyed 1 1 .scrambled, startable 0 (some (slot 3))],
      let s := due v (.period 2);
      s.rstAsserted = false ∧ .period 2 ∈ s.frameDue ∧ s.svc 2 = some v) ∧
      (∃ x ∈ (keyed 1 2 .scrambled).keys.next, (keyed 1 2 .scrambled).cfg.nmin ≤ x.sent) ∧
      (¬ (∃ x ∈ (keyed 1 1 .scrambled).keys.next, (keyed 1 1 .scrambled).cfg.nmin ≤ x.sent) ∧
        (keyed 1 1 .scrambled).keys.next.isSome = true) ∧
      (startable 0 (some (slot 3))).keys.next = none := by decide +kernel

/-- R137, R148, R149: with a lead of the whole period a changeover drops the old request and asks for the new next slot
(notes/assumptions/16.md), and so does the ready end of a window. -/
theorem test_expiries_ask_at_once :
    (let v := { keyed 1 2 .scrambled with cfg := (dark 0 12 none).cfg };
      sees (fun t => (t.requests, (t.svc 2).map fun w => w.keys.requestMark))
          (exec (.periodExpiry 2) { due v (.period 2) with requests := [⟨2, .one, true⟩], keyAttn := true })
        = some ([⟨2, .zero, false⟩], some true)) ∧
    (let v := { keyed 2 0 .window with cfg := (dark 2 12 none).cfg };
      sees (fun t => (t.requests, (t.svc 2).map fun w => (w.keys.requestMark, w.keys.windowSpent)))
          (exec (.windowEnd 2) (due { v with keys := { v.keys with slot1 := none } } (.window 2)))
        = some ([⟨2, .one, false⟩], some (true, true))) := by decide +kernel

theorem test_meets_KeyExpiriesActOnTheService :
    (∀ v ∈ [keyed 2 0 .window, keyed 1 0 .window],
      let s := due v (.window 2);
      s.rstAsserted = false ∧ .window 2 ∈ s.frameDue ∧ s.svc 2 = some v) ∧
      (∃ x ∈ (keyed 2 0 .window).keys.current, (keyed 2 0 .window).cfg.nmin ≤ x.sent) ∧
      (¬ ∃ x ∈ (keyed 1 0 .window).keys.current, (keyed 1 0 .window).cfg.nmin ≤ x.sent) ∧
      .countdown 2 ∈ (due (keyed 1 0 .late) (.countdown 2)).frameDue ∧
      .deferral 2 ∈ (due (keyed 1 0 .deferred) (.deferral 2)).frameDue := by decide +kernel

/-! ### Slots -/

theorem test_meets_NullAndEntitleSlots :
    (let s : State := { slotFour clearRunning with slotIndex := 3 };
      s.rstAsserted = false ∧ s.frameDue = [] ∧ s.slotIndex ≠ 0 ∧ s.slotIndex < s.frameStruct.l) ∧
      (let s : State := { part clearRunning with slotIndex := 511 };
        s.frameStruct.l ≤ s.slotIndex ∧ s.dueLeft [] ∧ ∀ n, ∀ v ∈ s.svc n, v.nothingToSend) ∧
      -- a head of the due list without a key, its service with cells but in BLACKOUT
      (let s : State := { slotFour (dark 0 5 none) with dueList := [2, 5] };
        s.frameStruct.l ≤ s.slotIndex ∧ s.dueLeft [5] ∧ ∀ n, ∀ v ∈ s.svc n, v.nothingToSend) ∧
      (let v := keyed 1 254 .scrambled;
        let s : State := { slotFour v with dueList := [2, 5] };
        s.slotIndex ≠ 0 ∧ s.frameStruct.l ≤ s.slotIndex ∧ s.dueList = 2 :: [5] ∧
          v.keys.next = some (slot 254) ∧ (slot 254).payload.length ≤ 92) ∧
      ((startable 0 (some (slot 255))).keys.next = none ∧
        (startable 0 (some (slot 255))).keys.current = some (slot 255)) := by
  unfold Service.nothingToSend
  exact ⟨by decide +kernel, ⟨by decide +kernel, .inl (by decide +kernel), by decide +kernel⟩,
    ⟨by decide +kernel, .inr ⟨2, by decide +kernel⟩, by decide +kernel⟩, by decide +kernel, by decide +kernel⟩

/-- A SCRAMBLED service with a deficit and two cells in its ring. -/
def granted : Service :=
  let v := keyed 1 1 .scrambled;
  { v with queue := { v.queue with read := 128, write := 130 }, alloc := { v.alloc with deficit := 1, grant := 1 } }

/-- Services in the protection states a take can meet, with two cells in the ring. -/
def sending (a : Activity) (prot : ProtState) (deficit : Nat) : Service :=
  let v := keyed 1 1 prot;
  { v with
    activity := a, queue := { v.queue with read := 128, write := 130 }
    alloc := { v.alloc with deficit := deficit, grant := 1 } }

/-- A service with an empty ring and a marker pending. -/
def marking (a : Activity) : Service :=
  { sending a .scrambled 0 with queue := { read := 128, write := 128, marker := some ⟨52, true, 3⟩, withdrawal := none } }

theorem test_meets_GrantedServiceSendsItsCell :
    -- granted: the last service of the search, behind one with a deficit and nothing to send
    (let s : State := ({ slotFour granted with rrPointer := 3 } : State).putSvc 3 (some
        { dark 0 5 none with alloc := granted.alloc });
      s.atRest ∧ s.slotIndex ≠ 0 ∧ s.frameStruct.l ≤ s.slotIndex ∧ s.dueLeft [] ∧ s.svc 2 = some granted ∧ 15 < 16 ∧
        (2 : Svc) = s.rrPointer + Fin.ofNat 16 15 ∧ 0 < granted.alloc.deficit ∧
        ∀ i < 15, ∀ u ∈ s.svc (s.rrPointer + Fin.ofNat 16 i), u.alloc.deficit = 0 ∨ u.nothingToSend) ∧
      -- surplus, the first of the search, in every protection state, after a due-list head without a key
      (∀ v ∈ [clearRunning, sending .running .window 0, sending .running .deferred 0, sending .draining .late 0,
          marking .draining],
        let s : State := { slotFour granted with rrPointer := 2, dueList := [9] };
        let t := s.putSvc 2 (some v);
        (t.rstAsserted = false ∧ t.frameDue = [] ∧ t.svc 2 = some v ∧ (2 : Svc) = t.rrPointer + Fin.ofNat 16 0 ∧
          t.dueList = 9 :: [] ∧ t.svc 9 = none ∧ v.activity ≠ .defined ∧ v.keys.prot ≠ none ∧
          v.keys.prot ≠ some .blackout ∧ v.alloc.deficit = 0) ∧ ∀ m, ∀ u ∈ t.svc m, u.alloc.deficit = 0) ∧
      (granted.queue.read ≠ granted.queue.write ∧ (Pool.read (slotFour granted).pool granted.queue.read).service = 2 ∧
        (Pool.read (slotFour granted).pool granted.queue.read).validBits < 1024 ∧
        (Pool.read (slotFour granted).pool granted.queue.read).kind = .picture ∧
        granted.keys.current = some (slot 1)) ∧
      ((marking .draining).queue.read = (marking .draining).queue.write ∧
        (marking .draining).queue.marker = some ⟨52, true, 3⟩) := by
  unfold Service.nothingToSend
  refine ⟨⟨⟨rfl, rfl⟩, by decide +kernel, by decide +kernel, .inl (by decide +kernel), ?_⟩, by decide +kernel,
    by decide +kernel, by decide +kernel⟩
  decide +kernel

/-- R90, R4: the marker of a DRAINING service with an empty ring leaves as a GAP cell and ends the drain. -/
theorem test_slot_pull_marker :
    sees (fun t => (t.outCell.take 3, (t.outCell.drop 4).take 4, (t.svc 2).map fun w => (w.activity, w.queue.marker)))
        (exec (.slotPull .clean) { part (marking .draining) with slotIndex := 4 })
      = some ([0x64, 0x00, 0x20], [0x00, 0x34, 0x01, 0x03], some (.defined, none)) := by decide +kernel

/-- R79, R93, R123, R159: a surplus slot sends the first cell of an open picture clear in WINDOW, corrected. -/
theorem test_slot_pull_surplus_window :
    let v := Coding { sending .running .window 0 with contPicture := 15 } { picture with firstCell := .queued 128 };
    sees (fun t => (t.outCell.take 3, (t.svc 2).map fun w => (w.contPicture, w.cellSeq), (t.picture 2).map fun p =>
        p.firstCell, t.checks.flags))
        (exec (.slotPull .corrected) (slotFour v))
      = some ([0x45, 0x3E, 0xE0], some (0, 0), some (.sent 128), 4) := by decide +kernel

/-- A service in WINDOW with two cells in its ring. -/
def windowed : Service :=
  let v := service 1 2 .running (some .window);
  { v with queue := { v.queue with read := 128, write := 130 } }

theorem ringsLaw_of {s : State} (h : s.pool.wf ∧
    (∀ n : Svc, ∀ v ∈ s.svc n, v.cfg.base ≤ v.queue.read ∧ v.queue.read < v.cfg.base + 2 ^ v.cfg.k ∧
      v.cfg.base ≤ v.queue.write ∧ v.queue.write < v.cfg.base + 2 ^ v.cfg.k) ∧
    (∀ m n : Svc, m ≠ n → ∀ v ∈ s.svc m, ∀ w ∈ s.svc n,
      v.cfg.base + 2 ^ v.cfg.k ≤ w.cfg.base ∨ w.cfg.base + 2 ^ w.cfg.k ≤ v.cfg.base) ∧
    ∀ n : Svc, ∀ v ∈ s.svc n, ∀ i < v.ringLength,
      1 ≤ (Pool.read s.pool (v.ringCell i)).validBits ∧ (Pool.read s.pool (v.ringCell i)).service = n) :
    s.ringsLaw := h

/-- The key contexts of a state with nothing outstanding are in order if each service's is. -/
theorem keysLaw_of {s : State} (h : s.frameDue = [])
    (k : ∀ n : Svc, ∀ v ∈ s.svc n, (v.activity = .defined ↔ v.keys.prot = none) ∧
      (v.keys.prot ≠ none → (v.keys.prot = some .clear ↔ v.cfg.protection = .clear)) ∧
      (v.keys.prot = some .scrambled ∨ v.keys.prot = some .deferred ∨ v.keys.prot = some .late →
        v.keys.current.isSome = true)) : s.keysLaw :=
  ⟨k, by rw [h]; simp, by rw [h]; simp⟩

theorem windowed_ringsLaw : (slotFour windowed).ringsLaw := ringsLaw_of (by decide +kernel)

theorem windowed_keysLaw : (slotFour windowed).keysLaw := keysLaw_of rfl (by decide +kernel)

theorem test_meets_ClearPictureCellsOnlyInTheWindow :
    (slotFour windowed).atRest ∧ (slotFour windowed).ringsLaw ∧ (slotFour windowed).keysLaw ∧
      (slotFour windowed).slotIndex ≠ 0 ∧
      (∃ t h0 h1 rest, exec (.slotPull .clean) (slotFour windowed) = .next t ∧ t.outCell = h0 :: h1 :: rest ∧
        h0.toNat / 32 = 2 ∧ h0.toNat / 2 % 16 = (2 : Svc).val ∧ h1.toNat < 128) ∧
      (slotFour windowed).svc 2 = some windowed ∧ windowed.cfg.protection = .scrambled := by
  refine ⟨⟨rfl, rfl⟩, windowed_ringsLaw, windowed_keysLaw, by decide +kernel, ?_, by decide +kernel, by decide +kernel⟩
  have h : (after (exec (.slotPull .clean) (slotFour windowed))).any (fun t =>
      match t.outCell with
      | h0 :: h1 :: _ => h0.toNat / 32 == 2 && h0.toNat / 2 % 16 == 2 && h1.toNat < 128
      | _ => false) = true := by decide +kernel
  cases ho : after (exec (.slotPull .clean) (slotFour windowed)) with
  | none => rw [ho] at h; cases h
  | some t =>
    rw [ho, Option.any_some] at h
    split at h
    · rename_i h0 h1 rest he
      simp only [Bool.and_eq_true, beq_iff_eq, decide_eq_true_eq] at h
      exact ⟨t, h0, h1, rest, next_of_after ho, he, h.1.1, h.1.2, h.2⟩
    · cases h

theorem test_meets_CodingStaysInItsBounds :
    (∀ x ∈ [(1, 4), (63, 64)], 1 ≤ x.1 ∧ x.1 ≤ 63 ∧ 4 ≤ x.2 ∧ x.2 ≤ 64) ∧
      (([0, 0] : List Int).countP (fun l => l ≠ 0) = 0 ∧ 0 < ([0, -3] : List Int).countP fun l => l ≠ 0) ∧
      ((List.replicate 16 (-255 : Int)).length ≤ 16 ∧ ∀ l ∈ List.replicate 16 (-255 : Int), l.natAbs ≤ 255) := by
  decide +kernel

theorem test_meets_FaultsAndChecksAreKept :
    (let l : FaultList := { entries := [⟨.blackout, 1, 255⟩], more := false };
      (∃ e ∈ l.entries, e.code = .blackout) ∧ (∀ e ∈ l.entries, e.code ≠ .keyLate) ∧ l.entries.length < 4) ∧
      (let l : FaultList :=
          { entries := [⟨.blackout, 1, 1⟩, ⟨.keyLate, 1, 1⟩, ⟨.strayInput, 1, 1⟩, ⟨.inputLost, 1, 1⟩], more := false };
        (∀ e ∈ l.entries, e.code ≠ .queueOverflow) ∧ 4 ≤ l.entries.length) := by decide +kernel

/-! ### Laws kept by every step -/

/-- A working state of two services: service 2 RUNNING with an open picture, cells in its ring and a fault, service 3
DEFINED; a pull waits. -/
def working (c : Instr) : State :=
  let v := Coding { granted with faults := { entries := [⟨.keyLate, 1, 1⟩], more := false } } picture;
  let s := (slotFour v).putSvc 3 (some (Service.created (SvcConfig.ofBlock { block 0 0 with base := 144 })));
  { s with
    quant := { s.quant with users0 := 1 }, ctlAttn := true, requests := [⟨2, .one, false⟩], keyAttn := true
    dueList := [2], ingestQueue := [.picTail 2 7], credits := 63, pending := [c] }

theorem working_steps : ∃ t, step (working .status) = .next t := ⟨_, rfl⟩

theorem working_ringsLaw : (working .status).ringsLaw := ringsLaw_of (by decide +kernel)

theorem working_keysLaw : (working .status).keysLaw := keysLaw_of rfl (by decide +kernel)

theorem test_meets_StepKeepsTheCredits :
    (working .status).creditLaw ∧ ∃ t, step (working .status) = .next t := by
  refine ⟨?_, working_steps⟩
  unfold State.creditLaw; decide +kernel

theorem test_meets_StepKeepsTheAttentionLines :
    (working .status).ctlAttnLaw ∧ (working .status).keyAttnLaw ∧ (working .status).listsLaw ∧
      ∃ t, step (working .status) = .next t := by
  refine ⟨?_, ?_, ?_, working_steps⟩
  · unfold State.ctlAttnLaw; decide +kernel
  · unfold State.keyAttnLaw; decide +kernel
  · unfold State.listsLaw; decide +kernel

theorem test_meets_StepKeepsTheRings :
    (working .status).ringsLaw ∧ ∃ t, step (working .status) = .next t := ⟨working_ringsLaw, working_steps⟩

theorem test_meets_StepKeepsTheBankUsers :
    (working .status).usersLaw ∧ ∃ t, step (working .status) = .next t := by
  refine ⟨?_, working_steps⟩
  unfold State.usersLaw; decide +kernel

theorem test_meets_StepKeepsFaultListsAndDeficits :
    (working .status).faultsLaw ∧ (working .status).deficitLaw ∧ ∃ t, step (working .status) = .next t := by
  refine ⟨?_, ?_, working_steps⟩
  · unfold State.faultsLaw FaultList.law; decide +kernel
  · unfold State.deficitLaw; decide +kernel

theorem test_meets_StepKeepsTheKeyContexts :
    (working .status).keysLaw ∧ ∃ t, step (working .status) = .next t := ⟨working_keysLaw, working_steps⟩

theorem test_meets_StepKeepsTheMultiplex :
    (working .status).capacityLaw ∧ (working .status).frameLaw ∧ ∃ t, step (working .status) = .next t := by
  refine ⟨?_, ?_, working_steps⟩
  · unfold State.capacityLaw; decide +kernel
  · unfold State.frameLaw; decide +kernel

theorem test_meets_StepKeepsRateAndCellBounds :
    (working .status).rateLaw ∧ (working .status).cellSizeLaw ∧ ∃ t, step (working .status) = .next t := by
  refine ⟨?_, ?_, working_steps⟩
  · unfold State.rateLaw Service.rateLaw; decide +kernel
  · unfold State.cellSizeLaw; decide +kernel

theorem test_meets_NoStepStops :
    (working (.slotPull .clean)).ringsLaw ∧ (working (.slotPull .clean)).keysLaw :=
  ⟨ringsLaw_of (by decide +kernel), keysLaw_of rfl (by decide +kernel)⟩

theorem test_meets_ChangeoverOnlyWhenReady :
    let s := due (keyed 1 2 .scrambled) (.period 2);
    isLineCommand (.periodExpiry 2) = false ∧ s.svc 2 = some (keyed 1 2 .scrambled) ∧
      (keyed 1 2 .scrambled).activity ≠ .defined ∧
      ∃ t w, exec (.periodExpiry 2) s = .next t ∧ t.svc 2 = some w ∧ w.keys.phase ≠ (keyed 1 2 .scrambled).keys.phase := by
  refine ⟨rfl, by decide +kernel, by decide +kernel, ?_⟩
  have h : (expire (.period 2) (due (keyed 1 2 .scrambled) (.period 2))).svc 2 |>.any (fun w => w.keys.phase == .one) := by
    decide +kernel
  cases hw : (expire (.period 2) (due (keyed 1 2 .scrambled) (.period 2))).svc 2 with
  | none => rw [hw] at h; cases h
  | some w =>
    rw [hw] at h
    refine ⟨_, w, rfl, hw, ?_⟩
    have h2 : w.keys.phase = .one := by simpa using h
    rw [h2]; decide

theorem test_meets_AllocationDividesThePeriod_frames :
    -- a number that is a multiple of A and one that is not; an expiry that goes first and one that does not
    (∀ v ∈ [clearRunning, { clearRunning with ingest := { clearRunning.ingest with silence := 4 } }],
      ∀ number ∈ [0, 1],
        let s : State := { part v with frameBegun := true, frameNumber := BitVec.ofNat 32 number };
        s.rstAsserted = false ∧ s.frameDue = [] ∧ s.slotIndex = 0 ∧ s.svc 2 = some v) ∧
      ∀ s : State, ∃ t, exec (.frameStart [2] []) s = .next t := ⟨by decide +kernel, fun _ => ⟨_, rfl⟩⟩

theorem test_meets_AllocationDividesThePeriod :
    (let s := working .status;
      let m := s.frameStruct;
      (s.participants.map fun x => x.2.cfg.floor * m.a).sum
        + (s.participants.map fun x => if x.2.cfg.protection = .scrambled then (m.a + x.2.cfg.e - 1) / x.2.cfg.e else 0).sum
        ≤ (m.f - m.l) * m.a ∧
        0 < (s.participants.map fun x => if x.2.activity = .running then x.2.cfg.weight * x.2.alloc.complexity else 0).sum ∧
        (s.svc 2).any fun v => v.activity != .defined) ∧
      (let s := part (service 0 0 .stalled (some .clear));
        (s.participants.map fun x => if x.2.activity = .running then x.2.cfg.weight * x.2.alloc.complexity else 0).sum
          = 0) := by decide +kernel

end Sys2Proof.Tests
end

section
/-! PROOF. WEIGHTS_QUERY (R46): what a request answers that leaves the state as it found it. -/

namespace Sys2Proof.Proofs

open Sys2Proof.Machine

/-- A take number raised and a response held are together a request answered (R169, R171). -/
theorem holdResponse_countTake (p : PortId) (code : Byte) (reply : Reply) (s : State) :
    holdResponse p code reply (countTake p s) = s.answered p code reply.code.byte reply.fields := by
  simp [holdResponse, countTake, State.answered, response, responseCode]

/-- A request that changes nothing is answered with its reply, and nothing else happens. -/
theorem takeRequest_of_unchanged (p : PortId) (r : Request) (s : State) (reply : Reply)
    (h : runRequest r (countTake p s) = (countTake p s, reply)) :
    takeRequest p r s = s.answered p r.code reply.code.byte reply.fields := by
  simp [takeRequest, h, holdResponse_countTake]

/-- At rest a control-port request is taken against the state as it stands. -/
theorem takeControl_of_atRest (r : Request) (s : State) (h : s.atRest) :
    takeControl r s = .next (takeRequest .control r s) := by
  obtain ⟨hrst, hdue⟩ := h
  rw [takeControl, operate_of_rest _ s hrst hdue]

/-- Raising a take number leaves the weight banks as they are. -/
@[simp] theorem countTake_quant (p : PortId) (s : State) : (countTake p s).quant = s.quant := by
  simp [countTake]

/-- WEIGHTS_QUERY replies with the banks of the state in which its request came. -/
theorem runRequest_weightsQuery (p : PortId) (s : State) :
    runRequest .weightsQuery (countTake p s)
      = (countTake p s, { code := .ok, fields := weightsFields s.quant ++ bankTables s.quant }) := by
  simp [runRequest, queryWeights]

/-- The fields of the reply are the bytes that R194 lists: the active bank, both users counts and the four tables. -/
theorem weightsFields_append_bankTables (q : Quantizer) :
    weightsFields q ++ bankTables q
      = [q.active.byte, byteOf q.users0, byteOf q.users1]
        ++ q.bank0.intra.toList ++ q.bank0.predicted.toList ++ q.bank1.intra.toList ++ q.bank1.predicted.toList := by
  simp only [weightsFields, bankTables, List.append_assoc]

/-- Settles O24: the request changes nothing, so all that happens is its answer. -/
theorem weightsQueryReportsTheBanks : Obligations.WeightsQueryReportsTheBanks := by
  intro s h
  have htake : exec .weightsQuery s = .next (takeRequest .control .weightsQuery s) := takeControl_of_atRest _ s h
  rw [htake, takeRequest_of_unchanged _ _ s _ (runRequest_weightsQuery _ s), weightsFields_append_bankTables]
  rfl

end Sys2Proof.Proofs
end

section
/-! PROOF. The bounds of steps and levels, the G-code, and a block's code and its length (R47 to R52). -/

namespace Sys2Proof.Proofs

open Sys2Proof.Machine

/-! ## Steps and levels -/

/-- The step of a qs and a weight in their ranges (R47). -/
theorem stepOf_mem_range {qs w : Nat} (hqs : qs ≤ 63) (hw : w ≤ 64) : 1 ≤ stepOf qs w ∧ stepOf qs w ≤ 252 := by
  have hmul : qs * w ≤ 63 * 64 := Nat.mul_le_mul hqs hw
  unfold stepOf
  omega

/-- A level saturates at 255 (R49). -/
theorem natAbs_levelOf_le (step rnd : Nat) (c : Int) : (levelOf step rnd c).natAbs ≤ 255 := by
  have hsign : c.sign.natAbs ≤ 1 := by
    rw [Int.natAbs_sign]
    split <;> decide
  calc (levelOf step rnd c).natAbs = c.sign.natAbs * min 255 (magnitude step rnd c) := by
        rw [levelOf, Int.natAbs_mul, Int.natAbs_natCast]
    _ ≤ 1 * 255 := Nat.mul_le_mul hsign (Nat.min_le_left _ _)

/-! ## Bit strings -/

@[simp] theorem length_bitsOf (w v : Nat) : (bitsOf w v).length = w := by
  induction w with
  | zero => rfl
  | succ w ih => simp [bitsOf, ih]

/-- Reading on through the low bits of a number shifts in its remainder. -/
theorem foldl_bitsOf (w v a : Nat) :
    (bitsOf w v).foldl (fun a b => 2 * a + b.toNat) a = a * 2 ^ w + v % 2 ^ w := by
  induction w generalizing a with
  | zero => simp [bitsOf, Nat.mod_one]
  | succ w ih =>
    rw [bitsOf, List.foldl_cons, ih, Nat.mod_pow_succ, Nat.toNat_testBit]
    ring

/-- Leading zeros do not change the number a bit string spells. -/
theorem natOfBits_replicate_false_append (z : Nat) (bits : List Bool) :
    natOfBits (List.replicate z false ++ bits) = natOfBits bits := by
  induction z with
  | zero => rfl
  | succ z ih => exact ih

theorem natOfBits_bitsOf (w v : Nat) : natOfBits (bitsOf w v) = v % 2 ^ w := by
  simp [natOfBits, foldl_bitsOf]

/-! ## G-codes (R50) -/

@[simp] theorem length_gcode (v : Nat) : (gcode v).length = gLength v := by
  rw [gcode, List.length_append, List.length_replicate, length_bitsOf, gLength]
  omega

/-- A G-code spells the number plus one. -/
theorem natOfBits_gcode (v : Nat) : natOfBits (gcode v) = v + 1 := by
  rw [gcode, natOfBits_replicate_false_append, natOfBits_bitsOf, Nat.mod_eq_of_lt Nat.lt_log2_self]

/-- A G-code begins with its zero bits. -/
theorem take_gcode (v : Nat) :
    (gcode v).take (Nat.log2 (v + 1)) = List.replicate (Nat.log2 (v + 1)) false := by
  simp [gcode]

/-- A number whose successor takes at most `k + 1` bits. -/
theorem gLength_le {v k : Nat} (h : v + 1 < 2 ^ (k + 1)) : gLength v ≤ 2 * k + 1 := by
  have hlog : Nat.log2 (v + 1) < k + 1 := (Nat.log2_lt (Nat.succ_ne_zero v)).mpr h
  unfold gLength
  omega

/-- Every further zero level costs a run at most two bits. -/
theorem gLength_le_linear (v : Nat) : gLength v ≤ 2 * v + 1 := gLength_le Nat.lt_two_pow_self

/-! ## Block codes (R51) -/

/-- The zero levels in a row at the end of a scan: the run before the level that comes next. -/
def runAfter (scanned : List Int) : Nat := (scanned.reverse.takeWhile fun l => l = 0).length

@[simp] theorem runAfter_nil : runAfter [] = 0 := rfl

@[simp] theorem runAfter_concat_zero (scanned : List Int) : runAfter (scanned ++ [0]) = runAfter scanned + 1 := by
  simp [runAfter]

@[simp] theorem runAfter_concat_of_ne {l : Int} (hl : l ≠ 0) (scanned : List Int) : runAfter (scanned ++ [l]) = 0 := by
  simp [runAfter, hl]

/-- The entry of a nonzero level after a run: run, magnitude less one, sign. -/
def levelEntry (run : Nat) (l : Int) : List Bool := gcode run ++ gcode (l.natAbs - 1) ++ [decide (l < 0)]

@[simp] theorem length_levelEntry (run : Nat) (l : Int) :
    (levelEntry run l).length = gLength run + gLength (l.natAbs - 1) + 1 := by
  simp only [levelEntry, List.length_append, length_gcode, List.length_singleton]

theorem levelEntries_zero_cons (run : Nat) (rest : List Int) :
    levelEntries run (0 :: rest) = levelEntries (run + 1) rest := by
  simp [levelEntries]

theorem levelEntries_cons_of_ne {l : Int} (hl : l ≠ 0) (run : Nat) (rest : List Int) :
    levelEntries run (l :: rest) = levelEntry run l ++ levelEntries 0 rest := by
  simp [levelEntries, levelEntry, hl]

/-- The places of the nonzero levels, in scan order. -/
def nonzeroPlaces (levels : List Int) : List Nat :=
  (List.range levels.length).filter fun i => levels.getD i 0 ≠ 0

theorem nonzeroPlaces_zero_cons (rest : List Int) :
    nonzeroPlaces (0 :: rest) = (nonzeroPlaces rest).map Nat.succ := by
  simp [nonzeroPlaces, List.range_succ_eq_map, List.filter_map, Function.comp_def]

theorem nonzeroPlaces_cons_of_ne {l : Int} (hl : l ≠ 0) (rest : List Int) :
    nonzeroPlaces (l :: rest) = 0 :: (nonzeroPlaces rest).map Nat.succ := by
  simp [nonzeroPlaces, List.range_succ_eq_map, List.filter_map, Function.comp_def, hl]

/-- The coder's running count is the run before each place: what it writes for the rest of a scan is the entry of each
nonzero level of that rest. -/
theorem levelEntries_eq_flatMap (scanned rest : List Int) :
    levelEntries (runAfter scanned) rest
      = (nonzeroPlaces rest).flatMap fun i => levelEntry (runAfter (scanned ++ rest.take i)) (rest.getD i 0) := by
  induction rest generalizing scanned with
  | nil => rfl
  | cons l rest ih =>
    have hnext := ih (scanned ++ [l])
    by_cases hl : l = 0
    · subst hl
      rw [runAfter_concat_zero] at hnext
      rw [levelEntries_zero_cons, nonzeroPlaces_zero_cons, hnext]
      simp [List.flatMap_map]
    · rw [runAfter_concat_of_ne hl] at hnext
      rw [levelEntries_cons_of_ne hl, nonzeroPlaces_cons_of_ne hl, hnext]
      simp [List.flatMap_map]

/-- A block without a nonzero level. -/
theorem blockCode_of_all_zero {levels : List Int} (h : nonzeroCount levels = 0) : blockCode levels = [false] := by
  simp [blockCode, h]

/-- A block with nonzero levels: their count less one, then the entry of each at its place. -/
theorem blockCode_of_nonzero {levels : List Int} (h : 0 < nonzeroCount levels) :
    blockCode levels = true :: (gcode (nonzeroCount levels - 1) ++
      (nonzeroPlaces levels).flatMap fun i => levelEntry (runAfter (levels.take i)) (levels.getD i 0)) := by
  have hentries := levelEntries_eq_flatMap [] levels
  simp only [List.nil_append, runAfter_nil] at hentries
  rw [blockCode, if_neg (Nat.ne_of_gt h), hentries]

/-- The length of a block's code is the sum of its parts (R51). -/
theorem length_blockCode_of_nonzero {levels : List Int} (h : 0 < nonzeroCount levels) :
    (blockCode levels).length = 1 + gLength (nonzeroCount levels - 1) + ((nonzeroPlaces levels).map fun i =>
      gLength (runAfter (levels.take i)) + gLength ((levels.getD i 0).natAbs - 1) + 1).sum := by
  rw [blockCode_of_nonzero h, List.length_cons, List.length_append, List.length_flatMap, length_gcode]
  simp only [length_levelEntry]
  omega

/-! ## The longest block (R52) -/

/-- A nonzero level costs at most 17 bits and two for each zero level of its run. -/
theorem length_levelEntry_le {l : Int} (hl : l.natAbs ≤ 255) (run : Nat) :
    (levelEntry run l).length ≤ 2 * run + 17 := by
  have hrun := gLength_le_linear run
  have hlevel : gLength (l.natAbs - 1) ≤ 15 := gLength_le (k := 7) (by omega)
  rw [length_levelEntry]
  omega

/-- So a scan costs at most 17 bits a level: a zero level costs less than a nonzero one. -/
theorem length_levelEntries_le (run : Nat) (levels : List Int) (h : ∀ l ∈ levels, l.natAbs ≤ 255) :
    (levelEntries run levels).length ≤ 2 * run + 17 * levels.length := by
  induction levels generalizing run with
  | nil => simp [levelEntries]
  | cons l rest ih =>
    obtain ⟨hl, hrest⟩ := List.forall_mem_cons.mp h
    by_cases hzero : l = 0
    · have hnext := ih (run + 1) hrest
      rw [hzero, levelEntries_zero_cons, List.length_cons]
      omega
    · have hentry := length_levelEntry_le hl run
      have hnext := ih 0 hrest
      rw [levelEntries_cons_of_ne hzero, List.length_append, List.length_cons]
      omega

theorem length_blockCode_pos (levels : List Int) : 1 ≤ (blockCode levels).length := by
  unfold blockCode
  split <;> simp

/-- Sixteen nonzero levels of magnitude 255 are the longest block: a 1, 9 bits of count and 17 bits a level. -/
theorem length_blockCode_le {levels : List Int} (hlen : levels.length ≤ 16) (h : ∀ l ∈ levels, l.natAbs ≤ 255) :
    (blockCode levels).length ≤ 282 := by
  have hcount : nonzeroCount levels ≤ levels.length := List.length_filter_le _ _
  have hcode : gLength (nonzeroCount levels - 1) ≤ 9 := gLength_le (k := 4) (by omega)
  have hentries := length_levelEntries_le 0 levels h
  unfold blockCode
  split
  · simp
  · rw [List.length_cons, List.length_append, length_gcode]
    omega

theorem countP_ne_zero (levels : List Int) : (levels.countP fun l => l ≠ 0) = nonzeroCount levels :=
  List.countP_eq_length_filter

/-- Settles O47, part by part: steps, levels, G-codes, block codes, and the bounds of a block. -/
theorem codingStaysInItsBounds : Obligations.CodingStaysInItsBounds := by
  refine ⟨?steps, natAbs_levelOf_le, ?gcodes, ?blocks, ?bounds⟩
  case steps => exact fun qs w _ hqs _ hw => stepOf_mem_range hqs hw
  case gcodes => exact fun v => ⟨length_gcode v, natOfBits_gcode v, take_gcode v⟩
  case blocks =>
    intro levels
    rw [countP_ne_zero]
    exact ⟨blockCode_of_all_zero, fun h => ⟨blockCode_of_nonzero h, length_blockCode_of_nonzero h⟩⟩
  case bounds => exact fun levels hlen h => ⟨length_blockCode_pos levels, length_blockCode_le hlen h⟩

end Sys2Proof.Proofs
end

section
/-! PROOF. WEIGHTS_LOAD (R44) and MUX_SET (R97): a request whose work does not concern its port, and the outcomes of the
two commands. -/

namespace Sys2Proof.Proofs

open Sys2Proof.Machine

/-! ## A request that leaves the ports alone -/

/-- A control-port request whose work does not depend on the take number (`hport`) is, at rest, its effect on the state,
answered. -/
theorem takeControl_of_run {r : Request} {s t : State} {reply : Reply} (h : s.atRest)
    (hport : runRequest r (countTake .control s)
      = (countTake .control (runRequest r s).1, (runRequest r s).2))
    (hrun : runRequest r s = (t, reply)) :
    takeControl r s = .next (t.answered .control r.code reply.code.byte reply.fields) := by
  rw [hrun] at hport
  rw [takeControl_of_atRest r s h, takeRequest, hport, holdResponse_countTake]

/-! ## WEIGHTS_LOAD -/

theorem weightsInRange_iff (t : WeightTable) :
    weightsInRange t = true ↔ ∀ w ∈ t.toList, 4 ≤ w.toNat ∧ w.toNat ≤ 64 := by
  simp only [weightsInRange, List.all_eq_true, Bool.and_eq_true, decide_eq_true_iff]

theorem weightsInRange_and_iff (intra predicted : WeightTable) :
    (weightsInRange intra && weightsInRange predicted) = true ↔
      ∀ w ∈ intra.toList ++ predicted.toList, 4 ≤ w.toNat ∧ w.toNat ≤ 64 := by
  rw [Bool.and_eq_true, weightsInRange_iff, weightsInRange_iff, List.forall_mem_append]

/-- The bank that WEIGHTS_LOAD tests and writes is the one that is not active. -/
theorem users_other_active (q : Quantizer) :
    q.users q.active.other = match q.active with
      | .zero => q.users1
      | .one => q.users0 := by
  cases q.active <;> rfl

/-- WEIGHTS_LOAD neither reads nor writes a port. -/
theorem loadWeights_countTake (intra predicted : WeightTable) (s : State) :
    loadWeights intra predicted (countTake .control s)
      = (countTake .control (loadWeights intra predicted s).1, (loadWeights intra predicted s).2) := by
  simp only [loadWeights, countTake_quant]
  split
  · rfl
  · split <;> rfl

/-- WEIGHTS_LOAD at rest is its effect on the state, answered. -/
theorem exec_weightsLoad_of_atRest {s : State} (h : s.atRest) {intra predicted : WeightTable} {t : State} {reply : Reply}
    (hrun : loadWeights intra predicted s = (t, reply)) :
    exec (.weightsLoad intra predicted) s = .next (t.answered .control 0x10 reply.code.byte reply.fields) :=
  takeControl_of_run h (loadWeights_countTake intra predicted s) hrun

theorem loadWeights_of_users {s : State} (intra predicted : WeightTable) (h : 0 < s.quant.users s.quant.active.other) :
    loadWeights intra predicted s = (s, { code := .busy, fields := weightsFields s.quant }) := by
  rw [loadWeights, if_pos h]

theorem loadWeights_of_not_range {s : State} {intra predicted : WeightTable}
    (h : s.quant.users s.quant.active.other = 0) (hr : ¬ (weightsInRange intra && weightsInRange predicted) = true) :
    loadWeights intra predicted s = (s, { code := .range, fields := weightsFields s.quant }) := by
  simp only [loadWeights, h, hr, Nat.lt_irrefl, Bool.not_false, if_true, if_false]

theorem loadWeights_of_range {s : State} {intra predicted : WeightTable}
    (h : s.quant.users s.quant.active.other = 0) (hr : (weightsInRange intra && weightsInRange predicted) = true) :
    loadWeights intra predicted s
      = ({ s with quant := s.quant.load intra predicted },
         { code := .ok, fields := weightsFields (s.quant.load intra predicted) }) := by
  simp only [loadWeights, h, hr, Nat.lt_irrefl, Bool.not_true, if_false, Bool.false_eq_true]

/-! ## MUX_SET -/

@[simp] theorem byteOf_toNat (b : Byte) : byteOf b.toNat = b := by
  simp [byteOf]

@[simp] theorem be16Of_toNat (v : Half) : be16Of v.toNat = be16 v := by
  simp [be16Of]

theorem mem_allServices (n : Svc) : n ∈ allServices := by
  revert n; decide

theorem isParticipant_iff (s : State) (n : Svc) :
    s.isParticipant n = true ↔ ∃ v ∈ s.svc n, v.activity ≠ .defined := by
  cases h : s.svc n <;> simp [State.isParticipant, Service.participant, h]

/-- No service is a participant just when each that is there is DEFINED. -/
theorem participantCount_eq_zero_iff (s : State) :
    s.participantCount = 0 ↔ ∀ n, ∀ v ∈ s.svc n, v.activity = .defined := by
  simp only [State.participantCount, List.length_eq_zero_iff, List.filter_eq_nil_iff, mem_allServices, forall_const,
    isParticipant_iff, not_exists, not_and, not_not]

theorem mux_inRange_iff (m : Mux) :
    m.inRange = true ↔ 64 ≤ m.f ∧ m.f ≤ 1024 ∧ 2 ≤ m.l ∧ m.l ≤ 32 ∧ 1 ≤ m.a ∧ m.a ≤ 16 := by
  simp [Mux.inRange, and_assoc]

/-- The fields of MUX_SET are the bytes that R194 lists. -/
theorem muxSetFields_eq (s : State) :
    muxSetFields s
      = be16Of s.inForce.f ++ [byteOf s.inForce.l, byteOf s.inForce.a] ++ be16Of (s.inForce.f - s.inForce.l)
        ++ [if s.adoptionPending then 1 else 0] := rfl

/-- MUX_SET neither reads nor writes a port. -/
theorem setMux_countTake (m : Mux) (s : State) :
    setMux m (countTake .control s) = (countTake .control (setMux m s).1, (setMux m s).2) := by
  have hcount : (countTake .control s).participantCount = s.participantCount := rfl
  simp only [setMux, hcount]
  split
  · rfl
  · split <;> rfl

/-- MUX_SET at rest is its effect on the state, answered. -/
theorem exec_muxSet_of_atRest {s : State} (h : s.atRest) {f : Half} {l a : Byte} {t : State} {reply : Reply}
    (hrun : setMux { f := f.toNat, l := l.toNat, a := a.toNat } s = (t, reply)) :
    exec (.muxSet f l a) s = .next (t.answered .control 0x18 reply.code.byte reply.fields) :=
  takeControl_of_run h (setMux_countTake _ s) hrun

theorem setMux_of_participant {s : State} (m : Mux) (h : s.participantCount ≠ 0) :
    setMux m s = (s, { code := .busy, fields := muxSetFields s }) := by
  rw [setMux, if_pos (Nat.pos_of_ne_zero h)]

theorem setMux_of_not_range {s : State} {m : Mux} (h : s.participantCount = 0) (hr : ¬ m.inRange = true) :
    setMux m s = (s, { code := .range, fields := muxSetFields s }) := by
  simp only [setMux, h, hr, Nat.lt_irrefl, Bool.not_false, if_true, if_false]

theorem setMux_of_range {s : State} {m : Mux} (h : s.participantCount = 0) (hr : m.inRange = true) :
    setMux m s
      = ({ s with inForce := m, adoptionPending := true },
         { code := .ok, fields := muxSetFields { s with inForce := m, adoptionPending := true } }) := by
  simp only [setMux, h, hr, Nat.lt_irrefl, Bool.not_true, if_false, Bool.false_eq_true]

/-- Settles O18, one outcome of each command at a time. -/
theorem weightsLoadAndMuxSetOutcomes : Obligations.WeightsLoadAndMuxSetOutcomes := by
  refine ⟨?weights, ?mux⟩
  case weights =>
    intro s intra predicted h
    dsimp only
    rw [← weightsInRange_and_iff]
    have hinactive := users_other_active s.quant
    refine ⟨fun husers => ?busy, fun hunused hrange => ?range, fun hunused hrange => ?loaded⟩
    case busy =>
      exact exec_weightsLoad_of_atRest h (loadWeights_of_users intra predicted (husers.trans_eq hinactive.symm))
    case range => exact exec_weightsLoad_of_atRest h (loadWeights_of_not_range (hinactive.trans hunused) hrange)
    case loaded =>
      rw [exec_weightsLoad_of_atRest h (loadWeights_of_range (hinactive.trans hunused) hrange), Quantizer.load]
      cases s.quant.active <;> rfl
  case mux =>
    intro s f l a h
    dsimp only
    rw [← participantCount_eq_zero_iff, ← muxSetFields_eq,
      ← mux_inRange_iff { f := f.toNat, l := l.toNat, a := a.toNat }]
    refine ⟨fun hbusy => ?busy, fun hidle hrange => ?range, fun hidle hrange => ?inForce⟩
    case busy => exact exec_muxSet_of_atRest h (setMux_of_participant _ hbusy)
    case range => exact exec_muxSet_of_atRest h (setMux_of_not_range hidle hrange)
    case inForce =>
      rw [exec_muxSet_of_atRest h (setMux_of_range hidle hrange), muxSetFields_eq]
      simp only [be16Of_toNat, byteOf_toNat]
      rfl

end Sys2Proof.Proofs
end

section
/-! PROOF. The keystream of a cell by the recurrence of R162, and a payload scrambled word by word (R163, R164). -/

namespace Sys2Proof.Proofs

open Sys2Proof.Machine

/-! ## The keystream's words (R162) -/

/-- The states run on by step 2 of R162, and step 3 forms a word from each. -/
theorem keystreamFrom_eq_map_iterate (key : BitVec 64) (count : Nat) (x : Word) :
    keystreamFrom key count x
      = (List.iterate (keystreamNext key) (keystreamNext key x) count).map (keystreamWord key) := by
  induction count generalizing x with
  | zero => rfl
  | succ count ih => rw [keystreamFrom, ih, List.iterate, List.map_cons]

@[simp] theorem length_keystreamFrom (key : BitVec 64) (count : Nat) (x : Word) :
    (keystreamFrom key count x).length = count := by
  rw [keystreamFrom_eq_map_iterate, List.length_map, List.length_iterate]

@[simp] theorem length_keystream (key : BitVec 64) (n : Word) (s : Svc) : (keystream key n s).length = 23 :=
  length_keystreamFrom ..

/-- Word j of a keystream is formed from the state j + 1 steps on. -/
theorem getElem_keystreamFrom (key : BitVec 64) (count j : Nat) (x : Word)
    (h : j < (keystreamFrom key count x).length) :
    (keystreamFrom key count x)[j] = keystreamWord key ((keystreamNext key)^[j + 1] x) := by
  -- At its arguments: left to find them, unification unfolds the multiplication of `keystreamNext`.
  have hstep := Function.iterate_succ_apply (keystreamNext key) j x
  simp only [keystreamFrom_eq_map_iterate, List.getElem_map, List.getElem_iterate]
  exact congrArg _ hstep.symm

/-- The product of step 1 may be formed before or after the cut to 32 bits. -/
theorem keystreamStart_eq (key : BitVec 64) (n : Word) (s : Svc) :
    keystreamStart key n s = keyLo key ^^^ n ^^^ BitVec.ofNat 32 (s.val * 0x01010101) :=
  congrArg (keyLo key ^^^ n ^^^ ·) (BitVec.ofNat_mul s.val 0x01010101).symm

/-! ## Words laid over a payload (R163) -/

/-- The number that words spell, most significant first, when they are read on from the number `a`. -/
def readWords (a : Nat) (words : List Word) : Nat := words.foldl (fun a w => 2 ^ 32 * a + w.toNat) a

theorem readWords_cons (a : Nat) (w : Word) (words : List Word) :
    readWords a (w :: words) = readWords (2 ^ 32 * a + w.toNat) words := rfl

theorem keystreamBits_eq (words : List Word) : keystreamBits words = BitVec.ofNat 736 (readWords 0 words) := rfl

/-- Each word read pushes the number up by 32 bits, and none reaches above its own 32. -/
theorem readWords_div (a : Nat) (words : List Word) : readWords a words / 2 ^ (32 * words.length) = a := by
  induction words generalizing a with
  | nil => simp [readWords]
  | cons w words ih =>
    have hw : w.toNat < 2 ^ 32 := w.isLt
    rw [readWords_cons, List.length_cons, Nat.mul_succ, Nat.pow_add, ← Nat.div_div_eq_div_mul, ih]
    omega

/-- Words read from zero on make a number of 32 bits for each word. -/
theorem readWords_zero_lt (words : List Word) : readWords 0 words < 2 ^ (32 * words.length) :=
  Nat.lt_of_div_eq_zero (Nat.two_pow_pos _) (readWords_div 0 words)

/-- Word j stands above the 32 bits of each word after it. -/
theorem readWords_div_mod (a : Nat) (words : List Word) (j : Nat) (h : j < words.length) :
    readWords a words / 2 ^ (32 * (words.length - 1 - j)) % 2 ^ 32 = words[j].toNat := by
  induction words generalizing a j with
  | nil => exact absurd h (Nat.not_lt_zero j)
  | cons w words ih =>
    rw [readWords_cons, List.length_cons, Nat.add_sub_cancel]
    cases j with
    | zero => rw [Nat.sub_zero, readWords_div, Nat.mul_add_mod, Nat.mod_eq_of_lt w.isLt, List.getElem_cons_zero]
    | succ j =>
      have hplace : words.length - (j + 1) = words.length - 1 - j := by omega
      rw [hplace]
      exact ih _ j (Nat.lt_of_succ_lt_succ h)

/-- 23 words fill the payload's 736 bits, so none of their number is cut off. -/
theorem toNat_keystreamBits {words : List Word} (hlen : words.length = 23) :
    (keystreamBits words).toNat = readWords 0 words := by
  have hwidth : 32 * words.length = 736 := by rw [hlen]
  rw [keystreamBits_eq, BitVec.toNat_ofNat, ← hwidth, Nat.mod_eq_of_lt (readWords_zero_lt words)]

/-- Payload word j of 23 words laid over a payload is word j. -/
theorem extractLsb'_keystreamBits {words : List Word} (hlen : words.length = 23) {j : Nat} (h : j < words.length) :
    (keystreamBits words).extractLsb' (32 * (22 - j)) 32 = words[j] := by
  have hword := readWords_div_mod 0 words j h
  rw [hlen] at hword
  apply BitVec.eq_of_toNat_eq
  rw [BitVec.extractLsb'_toNat, toNat_keystreamBits hlen, Nat.shiftRight_eq_div_pow]
  exact hword

/-! ## Scrambling (R163, R164) -/

/-- Scrambling XORs each payload word with the keystream word of the same number. -/
theorem extractLsb'_scramblePayload (key : BitVec 64) (n : Word) (s : Svc) (payload : BitVec 736) {j : Nat}
    (h : j < 23) :
    (scramblePayload key n s payload).extractLsb' (32 * (22 - j)) 32
      = payload.extractLsb' (32 * (22 - j)) 32
        ^^^ keystreamWord key ((keystreamNext key)^[j + 1] (keystreamStart key n s)) := by
  have hlen := length_keystream key n s
  rw [scramblePayload, BitVec.extractLsb'_xor, extractLsb'_keystreamBits hlen (hlen.symm ▸ h)]
  exact congrArg _ (getElem_keystreamFrom ..)

/-- Scrambling twice under one key, number and service restores the payload. -/
theorem scramblePayload_scramblePayload (key : BitVec 64) (n : Word) (s : Svc) (payload : BitVec 736) :
    scramblePayload key n s (scramblePayload key n s payload) = payload := by
  rw [scramblePayload, scramblePayload, BitVec.xor_assoc, BitVec.xor_self, BitVec.xor_zero]

/-- Settles O46: the words by the recurrence, and the second pass. -/
theorem scramblingFollowsTheKeystream : Obligations.ScramblingFollowsTheKeystream := by
  intro key n s payload
  refine ⟨fun j hj => ?word, scramblePayload_scramblePayload key n s payload⟩
  case word =>
    rw [extractLsb'_scramblePayload key n s payload hj, keystreamStart_eq]
    rfl

end Sys2Proof.Proofs
end

section
/-! PROOF. A fault entering a fault list (R179), and a check entering the check record (R183, R185). -/

namespace Sys2Proof.Proofs

open Sys2Proof.Machine

/-! ## A code raised on a fault list -/

/-- Whether a list holds an entry of a code is what R179 asks first. -/
theorem any_code_iff (l : FaultList) (code : FaultCode) :
    (l.entries.any fun e => e.code == code) = true ↔ ∃ e ∈ l.entries, e.code = code := by
  simp only [List.any_eq_true, beq_iff_eq]

/-- A code that is on the list is counted once more. -/
theorem raise_of_listed {l : FaultList} {code : FaultCode} (frame : Word) (h : ∃ e ∈ l.entries, e.code = code) :
    l.raise code frame = { l with entries := l.entries.map fun e =>
      if e.code = code then { e with count := min 255 (e.count + 1) } else e } := by
  rw [FaultList.raise, if_pos ((any_code_iff l code).mpr h)]

/-- A code that is not on the list leaves the test of R179 for room. -/
theorem raise_of_not_listed {l : FaultList} {code : FaultCode} (frame : Word) (h : ∀ e ∈ l.entries, e.code ≠ code) :
    l.raise code frame =
      if l.entries.length < 4 then
        { l with entries := l.entries ++ [{ code := code, firstFrame := frame, count := 1 }] }
      else { l with more := true } := by
  have hany : ¬ (l.entries.any fun e => e.code == code) = true := by
    rw [any_code_iff]
    exact fun ⟨e, he, hcode⟩ => h e he hcode
  rw [FaultList.raise, if_neg hany]
  rfl

/-! ## A check recorded -/

/-- The bit of a class in the flags byte is the one its precedence numbers. -/
theorem flag_eq_ofNat (c : CheckClass) : c.flag = BitVec.ofNat 8 (2 ^ (c.precedence - 1)) := by
  cases c <;> rfl

theorem yieldsTo_iff (detail : Option CheckDetail) (c : CheckClass) :
    CheckDetail.yieldsTo detail c = true ↔ ∀ d ∈ detail, d.cls.precedence ≤ c.precedence := by
  cases detail <;> simp [CheckDetail.yieldsTo]

/-- Reporting mode 1 reports the class of the highest precedence alone (R185). -/
theorem reports_one (c : CheckClass) : c.reports 1 = decide (c.precedence = 6) := by
  cases c <;> rfl

/-- Reporting mode 2 reports the three classes of the highest precedence (R185). -/
theorem reports_two (c : CheckClass) : c.reports 2 = decide (4 ≤ c.precedence) := by
  cases c <;> rfl

/-- A check recorded, in one record: what it does to CTL_ATTN is what it does to check attention. -/
theorem recordCheck_eq (c : CheckClass) (service : Option Svc) (cell : Option Nat) (s : State) :
    recordCheck c service cell s
      = { s with
          checks :=
            { flags := s.checks.flags ||| c.flag
              detail :=
                if CheckDetail.yieldsTo s.checks.detail c then
                  some { cls := c, service := service, frame := s.frameNumber, cellIndex := cell }
                else s.checks.detail
              attention := s.checks.attention || c.reports s.checks.mode
              mode := s.checks.mode }
          ctlAttn := s.ctlAttn || c.reports s.checks.mode } := by
  cases hreports : c.reports s.checks.mode <;> simp [recordCheck, hreports]

/-- Settles O48: the list by whether it holds the code and has room, the record by the precedence of the class. -/
theorem faultsAndChecksAreKept : Obligations.FaultsAndChecksAreKept := by
  refine ⟨?list, ?record⟩
  case list =>
    intro l code frame
    refine ⟨raise_of_listed frame, fun hnew hroom => ?room, fun hnew hfull => ?full⟩
    case room => rw [raise_of_not_listed frame hnew, if_pos hroom]
    case full => rw [raise_of_not_listed frame hnew, if_neg (Nat.not_lt.mpr hfull)]
  case record =>
    intro c service cell s rank reports
    have hrank : rank = CheckClass.precedence := by
      funext d
      cases d <;> rfl
    have hreports : reports = c.reports s.checks.mode := by
      dsimp only [reports]
      rw [hrank]
      match s.checks.mode with
      | 0 => rfl
      | 1 => exact (reports_one c).symm
      | 2 => exact (reports_two c).symm
      | _ + 3 => rfl
    simp only [recordCheck_eq, hreports, hrank, flag_eq_ofNat, yieldsTo_iff]

end Sys2Proof.Proofs
end

section
/-! PROOF. The commands on fault lists and on the check record (R181, R182, R186 to R188), and when CTL_ATTN falls
(R176). -/

namespace Sys2Proof.Proofs

open Sys2Proof.Machine

/-! ## What holds CTL_ATTN -/

theorem isFaulted_iff (s : State) (n : Svc) :
    s.isFaulted n = true ↔ ∃ v ∈ s.svc n, v.faults.entries ≠ [] := by
  cases h : s.svc n <;> simp [State.isFaulted, h]

/-- No service is faulted just when every fault list is empty. -/
theorem faulted_eq_nil_iff (s : State) : s.faulted = [] ↔ ¬ ∃ n, ∃ v ∈ s.svc n, v.faults.entries ≠ [] := by
  simp only [State.faulted, List.filter_eq_nil_iff, mem_allServices, forall_const, isFaulted_iff, not_exists]

/-- With the list of one service emptied, the others decide whether a service is faulted. -/
theorem faulted_putSvc_eq_nil_iff (s : State) (n : Svc) {v : Service} (hv : v.faults.entries = []) :
    (s.putSvc n (some v)).faulted = [] ↔ ¬ ∃ m, m ≠ n ∧ ∃ w ∈ s.svc m, w.faults.entries ≠ [] := by
  rw [faulted_eq_nil_iff]
  refine not_congr (exists_congr fun m => ?_)
  by_cases hm : m = n <;> simp [hm, hv]

/-- CTL_ATTN stays while a fault list is not empty or check attention is pending. -/
theorem dropCtlAttn_of_held {s : State} (h : s.checks.attention = true ∨ s.faulted ≠ []) : dropCtlAttn s = s := by
  refine if_neg fun ⟨hnil, hclear⟩ => ?_
  rcases h with hatt | hne
  · exact Bool.false_ne_true (hclear.symm.trans hatt)
  · exact hne hnil

/-- CTL_ATTN falls when neither holds it. -/
theorem dropCtlAttn_of_free {s : State} (hnil : s.faulted = []) (hatt : ¬ s.checks.attention = true) :
    dropCtlAttn s = { s with ctlAttn := false } :=
  if_pos ⟨hnil, Bool.eq_false_iff.mpr hatt⟩

/-- Without check attention the fault lists alone decide. -/
theorem dropCtlAttn_of_no_attention {s : State} (h : s.checks.attention = false) :
    dropCtlAttn s = { s with ctlAttn := if s.faulted = [] then false else s.ctlAttn } := by
  by_cases hnil : s.faulted = []
  · rw [dropCtlAttn_of_free hnil (Bool.eq_false_iff.mp h), if_pos hnil]
  · rw [dropCtlAttn_of_held (.inr hnil), if_neg hnil]

/-! ## Work that leaves the ports alone -/

@[simp] theorem countTake_named (p : PortId) (s : State) (b : Byte) : (countTake p s).named b = s.named b := by
  simp [State.named, countTake]

theorem dropCtlAttn_countTake (s : State) :
    dropCtlAttn (countTake .control s) = countTake .control (dropCtlAttn s) := by
  have hfaulted : (countTake .control s).faulted = s.faulted := rfl
  have hchecks : (countTake .control s).checks = s.checks := rfl
  simp only [dropCtlAttn, hfaulted, hchecks]
  split <;> rfl

/-! ## FAULTS_READ -/

/-- FAULTS_READ at rest changes nothing and is answered with its reply. -/
theorem exec_faultsRead_of_atRest {s : State} (h : s.atRest) {b : Byte} {reply : Reply}
    (hread : readFaults b s = (s, reply)) :
    exec (.faultsRead b) s = .next (s.answered .control 0x28 reply.code.byte reply.fields) := by
  refine takeControl_of_run h ?ports hread
  change readFaults b _ = (countTake .control (readFaults b s).1, (readFaults b s).2)
  simp only [readFaults, countTake_named]
  split <;> rfl

theorem readFaults_of_none {s : State} {b : Byte} (h : s.named b = none) :
    readFaults b s = (s, { code := .noService, fields := [b] }) := by
  rw [readFaults, h]

theorem readFaults_of_some {s : State} {b : Byte} {n : Svc} {v : Service} (h : s.named b = some (n, v)) :
    readFaults b s = (s, { code := .ok, fields := faultFields b v.faults }) := by
  rw [readFaults, h]

/-- Settles O21, by whether the byte names a service. -/
theorem faultsReadReportsTheList : Obligations.FaultsReadReportsTheList := by
  intro s b h
  refine ⟨fun hnone => ?unused, fun n v hb hv => ?listed⟩
  case unused => exact exec_faultsRead_of_atRest h (readFaults_of_none hnone)
  case listed => exact exec_faultsRead_of_atRest h (readFaults_of_some (named_of_svc s b n v hb hv))

/-! ## FAULTS_ACK -/

/-- FAULTS_ACK at rest is its effect on the state, answered. -/
theorem exec_faultsAck_of_atRest {s : State} (h : s.atRest) {b : Byte} {t : State} {reply : Reply}
    (hack : ackFaults b s = (t, reply)) :
    exec (.faultsAck b) s = .next (t.answered .control 0x29 reply.code.byte reply.fields) := by
  refine takeControl_of_run h ?ports hack
  change ackFaults b _ = (countTake .control (ackFaults b s).1, (ackFaults b s).2)
  simp only [ackFaults, countTake_named]
  split
  · rfl
  · rw [← dropCtlAttn_countTake]
    rfl

theorem ackFaults_of_none {s : State} {b : Byte} (h : s.named b = none) :
    ackFaults b s = (s, { code := .noService, fields := [b] }) := by
  rw [ackFaults, h]

theorem ackFaults_of_some {s : State} {b : Byte} {n : Svc} {v : Service} (h : s.named b = some (n, v)) :
    ackFaults b s
      = (dropCtlAttn (s.putSvc n (some { v with faults := FaultList.empty })),
         { code := .ok, fields := faultFields b v.faults }) := by
  rw [ackFaults, h]

/-! ## CHECK_READ -/

/-- CHECK_READ at rest changes nothing and is answered with the check record. -/
theorem exec_checkRead_of_atRest {s : State} (h : s.atRest) :
    exec .checkRead s = .next (s.answered .control 0x2A 0 (checkFields s.checks)) :=
  takeControl_of_run (r := .checkRead) h rfl rfl

/-- The fields of the reply are the bytes that R194 lists. -/
theorem checkFields_eq (c : CheckRecord) :
    checkFields c = c.flags ::
      (match c.detail with
        | none => [0, 0, 0xFF, 0, 0, 0, 0, 0xFF, 0xFF]
        | some d =>
          [1, byteOf d.cls.precedence, match d.service with
            | some n => byteOf n.val
            | none => 0xFF]
            ++ be32 d.frame ++ match d.cellIndex with
              | some i => be16Of i
              | none => [0xFF, 0xFF])
      ++ [flagByte c.attention, byteOf c.mode] := by
  obtain ⟨flags, detail, attention, mode⟩ := c
  rcases detail with _ | ⟨cls, service, frame, cell⟩
  · rfl
  · cases service <;> cases cell <;> rfl

/-- Settles O23: the record with its placeholders, and nothing else happens. -/
theorem checkReadReportsTheRecord : Obligations.CheckReadReportsTheRecord := by
  intro s h
  rw [exec_checkRead_of_atRest h, checkFields_eq]
  rfl

/-! ## CHECK_CLEAR -/

/-- CHECK_CLEAR clears the record but not the mode, and leaves CTL_ATTN to the fault lists. -/
theorem clearCheck_eq (s : State) :
    clearCheck s
      = ({ s with
          checks := { flags := 0, detail := none, attention := false, mode := s.checks.mode }
          ctlAttn := if s.faulted = [] then false else s.ctlAttn },
         { code := .ok, fields := checkFields s.checks }) :=
  Prod.ext (dropCtlAttn_of_no_attention rfl) rfl

/-- CHECK_CLEAR at rest is its effect on the state, answered. -/
theorem exec_checkClear_of_atRest {s : State} (h : s.atRest) {t : State} {reply : Reply}
    (hclear : clearCheck s = (t, reply)) :
    exec .checkClear s = .next (t.answered .control 0x2B reply.code.byte reply.fields) := by
  refine takeControl_of_run (r := .checkClear) h ?ports hclear
  change clearCheck _ = (countTake .control (clearCheck s).1, (clearCheck s).2)
  unfold clearCheck
  rw [← dropCtlAttn_countTake]
  rfl

/-! ## CHECK_MODE -/

/-- CHECK_MODE at rest is its effect on the state, answered. -/
theorem exec_checkMode_of_atRest {s : State} (h : s.atRest) {m : Byte} {t : State} {reply : Reply}
    (hset : setCheckMode m s = (t, reply)) :
    exec (.checkMode m) s = .next (t.answered .control 0x2C reply.code.byte reply.fields) := by
  refine takeControl_of_run h ?ports hset
  change setCheckMode m _ = (countTake .control (setCheckMode m s).1, (setCheckMode m s).2)
  unfold setCheckMode
  split <;> rfl

theorem setCheckMode_of_range {s : State} {m : Byte} (h : 3 < m.toNat) :
    setCheckMode m s = (s, { code := .range, fields := modeFields s.checks }) := by
  rw [setCheckMode, if_pos h]

theorem setCheckMode_of_le {s : State} {m : Byte} (h : m.toNat ≤ 3) :
    setCheckMode m s
      = ({ s with checks := { s.checks with mode := m.toNat } },
         { code := .ok, fields := [m, flagByte s.checks.attention] }) := by
  simp only [setCheckMode, Nat.not_lt.mpr h, if_false, modeFields, byteOf_toNat]

/-- Settles O22, one command and one outcome at a time. -/
theorem faultsAckAndCheckCommands : Obligations.FaultsAckAndCheckCommands := by
  refine ⟨?faultsAck, ?checks⟩
  case faultsAck =>
    intro s b h
    refine ⟨fun hnone => ?unused, fun n v hb hv => ?emptied⟩
    case unused => exact exec_faultsAck_of_atRest h (ackFaults_of_none hnone)
    case emptied =>
      have hexec := exec_faultsAck_of_atRest h (ackFaults_of_some (named_of_svc s b n v hb hv))
      have hnil := faulted_putSvc_eq_nil_iff s n (v := { v with faults := FaultList.empty }) rfl
      refine ⟨fun hothers => ?held, fun hothers => ?free⟩
      case held =>
        rw [dropCtlAttn_of_held (hothers.imp_right fun hw hempty => hnil.mp hempty hw)] at hexec
        exact hexec
      case free =>
        obtain ⟨hatt, hw⟩ := not_or.mp hothers
        rw [dropCtlAttn_of_free (hnil.mpr hw) hatt] at hexec
        exact hexec
  case checks =>
    intro s h
    refine ⟨⟨checkFields s.checks, ?clear, exec_checkRead_of_atRest h⟩, fun m => ?mode⟩
    case clear => exact exec_checkClear_of_atRest h (clearCheck_eq s)
    case mode =>
      exact ⟨fun hrange => exec_checkMode_of_atRest h (setCheckMode_of_range hrange),
        fun hle => exec_checkMode_of_atRest h (setCheckMode_of_le hle)⟩

end Sys2Proof.Proofs
end

section
/-! PROOF. What a command can do to the state, as a chain of moves: each move is one update of the state, or the few that
belong together, with the facts about it that the laws of the part rest on. -/

namespace Sys2Proof.Proofs

open Sys2Proof.Machine

/-! ## Changes of a picture and of an entry -/

/-- The qs of a picture lies within the bounds it latched, and these are in order (R69). -/
def inBounds (p : OpenPicture) : Prop := p.qmin ≤ p.qmax ∧ p.qmin ≤ p.qs ∧ p.qs ≤ p.qmax

/-- A partial cell below 736 bits and sixteen steps (R47, R81). -/
def sized (p : OpenPicture) : Prop := p.cell.bits.length < 736 ∧ p.steps.length = 16

/-- An open picture worked on: its bank stays, and so do the bounds of R69 and the sizes of R81. -/
structure PictureEdit (p q : OpenPicture) : Prop where
  bank : q.bank = p.bank
  bounds : inBounds p → inBounds q
  sizes : sized p → sized q

theorem PictureEdit.refl (p : OpenPicture) : PictureEdit p p := ⟨rfl, id, id⟩

/-- Either no picture is open before and after, or the open one has been worked on. -/
def KeepsPicture (v w : Service) : Prop :=
  (v.picture = none ∧ w.picture = none) ∨ ∃ p q, v.picture = some p ∧ w.picture = some q ∧ PictureEdit p q

theorem KeepsPicture.of_eq {v w : Service} (h : w.picture = v.picture) : KeepsPicture v w := by
  cases hv : v.picture with
  | none => exact .inl ⟨hv, h.trans hv⟩
  | some p => exact .inr ⟨p, p, hv, h.trans hv, .refl p⟩

/-- The pointers of a ring stay in its region, and what waits in it afterwards waited in it before. -/
def KeepsRing (v w : Service) : Prop :=
  v.pointersLaw → w.pointersLaw ∧ ∀ i < w.ringLength, ∃ j < v.ringLength, w.ringCell i = v.ringCell j

theorem KeepsRing.of_eq {v w : Service} (hcfg : w.cfg = v.cfg) (hread : w.queue.read = v.queue.read)
    (hwrite : w.queue.write = v.queue.write) : KeepsRing v w := by
  intro h
  simp only [Service.pointersLaw, Service.ringLength, Service.ringCell, hcfg, hread, hwrite]
  exact ⟨h, fun i hi => ⟨i, hi, rfl⟩⟩

/-- Which moves a statement is about: `strict` asks of every change of an entry that it keeps the law of R133 and R161,
`rekeys` allows a current phase to change, `loads` allows a weight bank to be written, `notes` allows the outstanding work
of a frame start to change. -/
structure Scope where
  strict : Prop
  rekeys : Prop
  loads : Prop
  notes : Prop

/-- A change of one entry that leaves configuration and fault list alone, and whether it is a participant. -/
structure EntryEdit (sc : Scope) (v w : Service) : Prop where
  cfg : w.cfg = v.cfg
  active : w.activity = .defined ↔ v.activity = .defined
  ring : KeepsRing v w
  picture : KeepsPicture v w
  faults : w.faults = v.faults
  deficit : v.alloc.deficit ≤ v.alloc.grant → w.alloc.deficit ≤ w.alloc.grant
  protection : sc.strict → v.protectionLaw → w.protectionLaw
  phase : sc.rekeys ∨ w.keys.phase = v.keys.phase

/-- A change that leaves the protection state alone, and the current slot present if it was, keeps R133 and R161. -/
theorem protectionLaw_of_prot_eq {v w : Service} (hcfg : w.cfg = v.cfg)
    (hact : w.activity = .defined ↔ v.activity = .defined) (hprot : w.keys.prot = v.keys.prot)
    (hcur : v.keys.current.isSome = true → w.keys.current.isSome = true) (h : v.protectionLaw) : w.protectionLaw := by
  obtain ⟨hdef, hclear, hkey⟩ := h
  rw [Service.protectionLaw, hcfg, hact, hprot]
  exact ⟨hdef, hclear, fun hp => hcur (hkey hp)⟩

/-- An entry changed in its keys alone. -/
theorem EntryEdit.of_keys {sc : Scope} {v w : Service} (k : KeyCtx) (h : w = { v with keys := k, cellSeq := w.cellSeq })
    (hprot : sc.strict → v.protectionLaw → w.protectionLaw) (hphase : sc.rekeys ∨ k.phase = v.keys.phase) :
    EntryEdit sc v w := by
  rw [h] at hprot ⊢
  exact ⟨rfl, Iff.rfl, .of_eq rfl rfl rfl, .of_eq rfl, rfl, id, hprot, hphase⟩

/-- An entry changed in its keys, the protection state, the phase and the presence of the current key left alone. -/
theorem EntryEdit.of_prot_eq {sc : Scope} {v w : Service} (k : KeyCtx)
    (h : w = { v with keys := k, cellSeq := w.cellSeq }) (hprot : k.prot = v.keys.prot) (hphase : k.phase = v.keys.phase)
    (hcur : v.keys.current.isSome = true → k.current.isSome = true) : EntryEdit sc v w := by
  have hkeys : w.keys = k := by rw [h]
  refine .of_keys k h (fun _ hlaw => protectionLaw_of_prot_eq ?_ ?_ (hkeys ▸ hprot) (hkeys ▸ hcur) hlaw) (.inr hphase)
  all_goals rw [h]

/-- An entry changed in what is neither configuration, fault list, grant nor key context, and which stays a participant
or none. -/
theorem EntryEdit.of_keys_eq {sc : Scope} {v w : Service} (hring : KeepsRing v w) (hpic : KeepsPicture v w)
    (hcfg : w.cfg = v.cfg := by rfl) (hact : w.activity = .defined ↔ v.activity = .defined := by exact Iff.rfl)
    (hfaults : w.faults = v.faults := by rfl)
    (hdeficit : v.alloc.deficit ≤ v.alloc.grant → w.alloc.deficit ≤ w.alloc.grant := by exact id)
    (hkeys : w.keys = v.keys := by rfl) : EntryEdit sc v w :=
  ⟨hcfg, hact, hring, hpic, hfaults, hdeficit,
    fun _ => protectionLaw_of_prot_eq hcfg hact (by rw [hkeys]) (by rw [hkeys]; exact id), .inr (by rw [hkeys])⟩

theorem EntryEdit.refl (sc : Scope) (v : Service) : EntryEdit sc v v :=
  .of_keys_eq (.of_eq rfl rfl rfl) (.of_eq rfl)

/-! ## Moves -/

/-- One move of a command. -/
inductive Move (sc : Scope) : State → State → Prop where
  /-- What no law speaks of. -/
  | quiet {s t : State} (hattention : t.checks.attention = s.checks.attention)
      (h : t = { s with
        startCause := t.startCause, rstAsserted := t.rstAsserted, clCredit := t.clCredit, frameNumber := t.frameNumber
        frameBegun := t.frameBegun, rrPointer := t.rrPointer, outCell := t.outCell, checks := t.checks
        control := t.control, key := t.key, frameDue := t.frameDue, pending := t.pending })
      (hdue : sc.notes ∨ t.frameDue = s.frameDue) : Move sc s t
  | entry {s : State} {n : Svc} {v w : Service} (hv : s.svc n = some v) (h : EntryEdit sc v w) :
      Move sc s (s.putSvc n (some w))
  /-- R42: a picture opens, with one user more on its bank. -/
  | opened {s : State} {n : Svc} {v : Service} {p : OpenPicture} (hv : s.svc n = some v) (hclosed : v.picture = none)
      (hact : v.activity ≠ .defined) (hbounds : v.cfg.qmin ≤ v.cfg.qmax → inBounds p) (hsizes : sized p) :
      Move sc s (({ s with quant := s.quant.addUser p.bank } : State).putSvc n (some (v.setIngest (.inPicture p))))
  /-- R43: a picture closes or is abandoned, with one user less on its bank. -/
  | closed {s : State} {n : Svc} {v : Service} {p : OpenPicture} {st : IngestState} (hv : s.svc n = some v)
      (hopen : v.picture = some p) (hst : (v.setIngest st).picture = none) :
      Move sc s (({ s with quant := s.quant.dropUser p.bank } : State).putSvc n (some (v.setIngest st)))
  | fault (n : Svc) (code : FaultCode) (s : State) : Move sc s (raiseFault n code s)
  | check (c : CheckClass) (service : Option Svc) (cell : Option Nat) (s : State) :
      Move sc s (recordCheck c service cell s)
  | asked (n : Svc) (ph : Phase) (urgent : Bool) (s : State) : Move sc s (addRequest n ph urgent s)
  | dropped (gone : KeyRequest → Bool) (s : State) : Move sc s (dropRequests gone s)
  | due {s : State} (l : List Svc) (h : s.dueList.Nodup → l.Nodup) : Move sc s { s with dueList := l }
  /-- R78: a cell appended to a ring for its own service. -/
  | appended {s t : State} {n : Svc} {c : PoolCell} (h : appendCell n c s = some t) (hservice : c.service = n)
      (hvalid : 1 ≤ c.validBits) (hsize : s.cellSizeLaw → c.validBits ≤ 736) : Move sc s t
  /-- R6: a participant without an open picture becomes DEFINED. -/
  | ended {s : State} {n : Svc} {v : Service} (hv : s.svc n = some v) (hclosed : v.picture = none) :
      Move sc s (s.putSvc n (some v.toDefined))
  /-- R13, R14: a DEFINED service that fits is started. -/
  | started {s : State} {n : Svc} {v : Service} {k : KeyCtx} (hv : s.svc n = some v) (hact : v.activity = .defined)
      (hfits : capacityOk s n v.cfg = true)
      (hprot : sc.strict → v.protectionLaw → ({ v.started with keys := k } : Service).protectionLaw)
      (hphase : k.phase = v.keys.phase) : Move sc s (s.putSvc n (some { v.started with keys := k }))
  /-- R8, R9. -/
  | created {s : State} {n : Svc} {b : CfgBlock} (hrekeys : sc.rekeys) (hv : s.svc n = none)
      (hrange : defineInRange s b = true) (hfree : overlapsOther s n (SvcConfig.ofBlock b) = false) :
      Move sc s (s.putSvc n (some (Service.created (SvcConfig.ofBlock b))))
  /-- R10 to R12. -/
  | modified {s : State} {n : Svc} {v : Service} {mask : BitVec 24} {b : CfgBlock} (hrekeys : sc.rekeys)
      (hv : s.svc n = some v) (hlive : (v.participant && nonLiveFields.any (selects mask)) = false)
      (hrange : modifyInRange s mask b (v.cfg.overlay mask b) = true)
      (hfree : (movesRegion mask && overlapsOther s n (v.cfg.overlay mask b)) = false)
      (hfits : (v.participant && (selects mask 3 || selects mask 14) && !capacityOk s n (v.cfg.overlay mask b)) = false) :
      Move sc s (s.putSvc n (some (v.modified mask b)))
  /-- R18. -/
  | released {s : State} {n : Svc} {v : Service} (hv : s.svc n = some v) (hact : v.activity = .defined) :
      Move sc s (dropCtlAttn (s.putSvc n none))
  /-- R182. -/
  | acknowledged {s : State} {n : Svc} {v : Service} (hv : s.svc n = some v) :
      Move sc s (dropCtlAttn (s.putSvc n (some { v with faults := FaultList.empty })))
  /-- R187. -/
  | checkCleared (s : State) :
      Move sc s (dropCtlAttn { s with checks := { s.checks with flags := 0, detail := none, attention := false } })
  /-- R44. -/
  | loaded {s : State} (intra predicted : WeightTable) (hloads : sc.loads) :
      Move sc s { s with quant := s.quant.load intra predicted }
  /-- R97. -/
  | muxSet {s : State} {m : Mux} (hidle : s.participantCount = 0) (hrange : m.inRange = true) :
      Move sc s { s with inForce := m, adoptionPending := true }
  /-- R98, R114. -/
  | frameBegun (s : State) : Move sc s (beginFrame s)
  /-- R113. -/
  | slotPulled (s : State) : Move sc s { s with slotIndex := nextSlot s.frameStruct s.slotIndex }
  /-- R24: the Packer takes the record at the head of the queue. -/
  | taken {s : State} {r : Record} {rest : List Record} (w : PackerWork) (hfree : s.packer = none)
      (hqueue : s.ingestQueue = r :: rest) : Move sc s { s with ingestQueue := rest, packer := some w }
  | worked {s : State} {w : PackerWork} (w' : PackerWork) (hwork : s.packer = some w) :
      Move sc s { s with packer := some w' }
  /-- R21, R24. -/
  | finished {s : State} {w : PackerWork} (hwork : s.packer = some w) : Move sc s { s with packer := none }.returnCredit
  /-- R21, R22. -/
  | admitted {s : State} (r : Record) (hcredit : 0 < s.credits) :
      Move sc s { s with credits := s.credits - 1, ingestQueue := s.ingestQueue ++ [r] }
  /-- R177. -/
  | cleared (s : State) : Move sc s (resetPart s)

/-- A chain of moves. -/
def Moves (sc : Scope) : State → State → Prop := Relation.ReflTransGen (Move sc)

variable {sc : Scope} {s t u : State}

@[refl] theorem Moves.refl (s : State) : Moves sc s s := Relation.ReflTransGen.refl

theorem Moves.of_eq (h : t = s) : Moves sc s t := h ▸ .refl t

theorem Move.moves (h : Move sc s t) : Moves sc s t := Relation.ReflTransGen.single h

@[trans] theorem Moves.trans (h : Moves sc s t) (k : Moves sc t u) : Moves sc s u := Relation.ReflTransGen.trans h k

/-- A fold of moves. -/
theorem Moves.foldl {α : Type} (f : State → α → State) (h : ∀ t x, Moves sc t (f t x)) (l : List α) (s : State) :
    Moves sc s (l.foldl f s) := by
  induction l generalizing s with
  | nil => exact .refl s
  | cons x l ih => exact (h s x).trans (ih (f s x))

/-- The service of an entry changed. -/
theorem modSvc_moves (n : Svc) (f : Service → Service) (s : State)
    (h : ∀ v, s.svc n = some v → EntryEdit sc v (f v)) : Moves sc s (s.modSvc n f) := by
  unfold State.modSvc
  split
  · next v hv => exact (Move.entry hv (h v hv)).moves
  · exact .refl s

/-- An entry changed in what no law speaks of. -/
theorem modSvc_plain_moves (n : Svc) (f : Service → Service) (s : State)
    (hcfg : ∀ v, (f v).cfg = v.cfg := by exact fun _ => rfl)
    (hact : ∀ v, (f v).activity = v.activity := by exact fun _ => rfl)
    (hread : ∀ v, (f v).queue.read = v.queue.read := by exact fun _ => rfl)
    (hwrite : ∀ v, (f v).queue.write = v.queue.write := by exact fun _ => rfl)
    (hpic : ∀ v, (f v).picture = v.picture := by exact fun _ => rfl)
    (hfaults : ∀ v, (f v).faults = v.faults := by exact fun _ => rfl)
    (hgrant : ∀ v, (f v).alloc.grant = v.alloc.grant := by exact fun _ => rfl)
    (hdeficit : ∀ v, (f v).alloc.deficit = v.alloc.deficit := by exact fun _ => rfl)
    (hkeys : ∀ v, (f v).keys = v.keys := by exact fun _ => rfl) : Moves sc s (s.modSvc n f) :=
  modSvc_moves n f s fun v _ =>
    .of_keys_eq (.of_eq (hcfg v) (hread v) (hwrite v)) (.of_eq (hpic v)) (hcfg v) (by rw [hact]) (hfaults v)
      (by rw [hgrant, hdeficit]; exact id) (hkeys v)

/-- What no law speaks of, changed. -/
theorem quiet_moves (hattention : t.checks.attention = s.checks.attention)
    (h : t = { s with
      startCause := t.startCause, rstAsserted := t.rstAsserted, clCredit := t.clCredit, frameNumber := t.frameNumber
      frameBegun := t.frameBegun, rrPointer := t.rrPointer, outCell := t.outCell, checks := t.checks
      control := t.control, key := t.key, frameDue := t.frameDue, pending := t.pending })
    (hdue : sc.notes ∨ t.frameDue = s.frameDue := by exact .inr rfl) : Moves sc s t :=
  (Move.quiet hattention h hdue).moves

/-! ## Shared operations -/

theorem modQueue_moves (n : Svc) (f : QueueDesc → QueueDesc) (s : State)
    (h : ∀ v, s.svc n = some v → KeepsRing v { v with queue := f v.queue }) : Moves sc s (s.modQueue n f) :=
  modSvc_moves n _ s fun v hv => .of_keys_eq (h v hv) (.of_eq rfl)

theorem recordLoss_moves (n : Svc) (number : Half) (cut : Bool) (s : State) : Moves sc s (recordLoss n number cut s) :=
  modSvc_plain_moves n _ s

theorem endWithdrawal_moves (n : Svc) (w : Withdrawal) (s : State) : Moves sc s (endWithdrawal n w s) :=
  (modSvc_plain_moves n _ s).trans (recordLoss_moves n _ _ _)

theorem markerTest_moves (n : Svc) (s : State) : Moves sc s (markerTest n s) := by
  unfold markerTest
  split
  · split
    · split
      · next t ht =>
        exact (Move.appended ht rfl (by decide : 1 ≤ 32) fun _ => (by decide : 32 ≤ 736)).moves.trans
          (modSvc_plain_moves n _ t)
      · exact .refl s
    · exact .refl s
  · exact .refl s

theorem picture_of_state {v : Service} {p : OpenPicture} (h : v.ingest.state = .inPicture p) : v.picture = some p := by
  rw [Service.picture, h]

theorem state_of_picture {v : Service} {p : OpenPicture} (h : v.picture = some p) : v.ingest.state = .inPicture p := by
  unfold Service.picture at h
  split at h
  · next heq => rw [heq, Option.some.inj h]
  · cases h
  · cases h

theorem abandonedState_closed (s : State) (n : Svc) (v : Service) :
    (v.setIngest (s.abandonedState n)).picture = none := by
  unfold State.abandonedState
  split <;> rfl

theorem abandonPicture_moves (n : Svc) (s : State) : Moves sc s (abandonPicture n s) := by
  unfold abandonPicture
  split
  · next v hv =>
    split
    · next p hp =>
      have hclose : Moves sc s (({ s with quant := s.quant.dropUser p.bank } : State).modSvc n fun v =>
          v.setIngest (s.abandonedState n)) := by
        rw [State.modSvc_some ({ s with quant := s.quant.dropUser p.bank } : State) n _ v hv]
        exact (Move.closed hv (picture_of_state hp) (abandonedState_closed s n v)).moves
      dsimp only
      split
      · exact hclose.trans (recordLoss_moves n _ _ _)
      · exact hclose.trans (modSvc_plain_moves n _ _)
      · exact hclose.trans (modSvc_plain_moves n _ _)
    · exact .refl s
    · exact .refl s
  · exact .refl s

theorem overflow_moves (n : Svc) (s : State) : Moves sc s (overflow n s) :=
  (Move.fault n _ s).moves.trans (abandonPicture_moves n _)

/-- An entry to DEFINED by a service without an open picture. -/
theorem enterDefined_moves {n : Svc} {v : Service} (hv : s.svc n = some v) (hclosed : v.picture = none) :
    Moves sc s (enterDefined n s) := by
  rw [enterDefined_eq n s v hv]
  exact (Move.ended hv hclosed).moves.trans ((Move.dropped (fun r => r.service == n) _).moves.trans
    (Move.due _ fun h => h.filter _).moves)

theorem drainTest_moves (n : Svc) (s : State) : Moves sc s (drainTest n s) := by
  cases hv : s.svc n with
  | none => simp only [drainTest, hv]; exact .refl s
  | some v =>
    rw [drainTest_some n s v hv]
    split
    · next h => exact enterDefined_eq n s v hv ▸ enterDefined_moves hv h.2.2.1
    · exact .refl s

end Sys2Proof.Proofs
end

section
/-! PROOF. The moves of the Queue Manager's pointers and of the Key Unit's operations. -/

namespace Sys2Proof.Proofs

open Sys2Proof.Machine

variable {sc : Scope} {s t u : State}

/-! ## Ring pointers (R75, R76) -/

theorem regionSize_eq (c : SvcConfig) : c.regionSize = 2 ^ c.k := rfl

/-- The length of a ring from pointers that lie in its region. -/
theorem ringLength_of_pointersLaw {v : Service} (h : v.pointersLaw) :
    v.ringLength =
      if v.queue.read ≤ v.queue.write then v.queue.write - v.queue.read
      else v.queue.write + 2 ^ v.cfg.k - v.queue.read := by
  obtain ⟨hr, hr', hw, hw'⟩ := h
  rw [Service.ringLength, regionSize_eq]
  generalize 2 ^ v.cfg.k = size at *
  split
  · next hle =>
    have hshift : v.queue.write + size - v.queue.read = v.queue.write - v.queue.read + size := by omega
    rw [hshift, Nat.add_mod_right, Nat.mod_eq_of_lt (by omega)]
  · exact Nat.mod_eq_of_lt (by omega)

/-- A pointer advanced stays in its region. -/
theorem advance_mem {c : SvcConfig} {ptr : Nat} (h : c.base ≤ ptr) :
    c.base ≤ c.advance ptr ∧ c.advance ptr < c.base + 2 ^ c.k := by
  have hpos : 0 < 2 ^ c.k := Nat.two_pow_pos _
  rw [SvcConfig.advance, regionSize_eq]
  split <;> omega

/-- A pointer stepped back stays in its region. -/
theorem retreat_mem {c : SvcConfig} {ptr : Nat} (h : c.base ≤ ptr) (h' : ptr < c.base + 2 ^ c.k) :
    c.base ≤ c.retreat ptr ∧ c.retreat ptr < c.base + 2 ^ c.k := by
  rw [SvcConfig.retreat, regionSize_eq]
  split <;> omega

/-- A head cell taken: what waits in the ring afterwards waited one place further on (R79). -/
theorem KeepsRing.of_take {v w : Service} (hcfg : w.cfg = v.cfg) (hread : w.queue.read = v.cfg.advance v.queue.read)
    (hwrite : w.queue.write = v.queue.write) (hne : v.queue.read ≠ v.queue.write) : KeepsRing v w := by
  intro h
  have hw : w.pointersLaw := by
    rw [Service.pointersLaw, hcfg, hread, hwrite]
    obtain ⟨hadv, hadv'⟩ := advance_mem h.1
    exact ⟨hadv, hadv', h.2.2⟩
  refine ⟨hw, fun i hi => ⟨i + 1, ?_, ?_⟩⟩
  · rw [ringLength_of_pointersLaw hw, hcfg, hread, hwrite, SvcConfig.advance, regionSize_eq] at hi
    rw [ringLength_of_pointersLaw h]
    obtain ⟨hr, hr', hw, hw'⟩ := h
    generalize 2 ^ v.cfg.k = size at *
    split_ifs at hi ⊢ <;> omega
  · rw [Service.ringCell, Service.ringCell, hcfg, hread, SvcConfig.advance, regionSize_eq]
    obtain ⟨hr, hr', hw, hw'⟩ := h
    generalize 2 ^ v.cfg.k = size at *
    split
    · congr 2; omega
    · have hwrap : v.queue.read - v.cfg.base + (i + 1) = i + size := by omega
      rw [hwrap, Nat.sub_self, Nat.zero_add, Nat.add_mod_right]

/-- The tail cell removed: what waits in the ring afterwards waited in the same place (R86). -/
theorem KeepsRing.of_retreat {v w : Service} (hcfg : w.cfg = v.cfg) (hread : w.queue.read = v.queue.read)
    (hwrite : w.queue.write = v.cfg.retreat v.queue.write) (hne : v.queue.read ≠ v.queue.write) : KeepsRing v w := by
  intro h
  have hw : w.pointersLaw := by
    rw [Service.pointersLaw, hcfg, hread, hwrite]
    obtain ⟨hr, hr', hw, hw'⟩ := h
    exact ⟨hr, hr', retreat_mem hw hw'⟩
  refine ⟨hw, fun i hi => ⟨i, ?_, by rw [Service.ringCell, Service.ringCell, hcfg, hread]⟩⟩
  rw [ringLength_of_pointersLaw hw, hcfg, hread, hwrite, SvcConfig.retreat, regionSize_eq] at hi
  rw [ringLength_of_pointersLaw h]
  obtain ⟨hr, hr', hw, hw'⟩ := h
  generalize 2 ^ v.cfg.k = size at *
  split_ifs at hi ⊢ <;> omega

/-- A ring emptied at a pointer of its region. -/
theorem KeepsRing.of_empty {v w : Service} (hcfg : w.cfg = v.cfg) (hread : w.queue.read = w.queue.write)
    (hmem : v.pointersLaw → v.cfg.base ≤ w.queue.write ∧ w.queue.write < v.cfg.base + 2 ^ v.cfg.k) : KeepsRing v w := by
  intro h
  obtain ⟨hlo, hhi⟩ := hmem h
  have hw : w.pointersLaw := by
    rw [Service.pointersLaw, hcfg, hread]
    exact ⟨hlo, hhi, hlo, hhi⟩
  refine ⟨hw, fun i hi => absurd hi ?_⟩
  rw [ringLength_of_pointersLaw hw, hread, if_pos le_rfl, Nat.sub_self]
  exact Nat.not_lt_zero i

theorem withdrawStep_moves (n : Svc) (s : State) : Moves sc s (withdrawStep n s) := by
  unfold withdrawStep
  split
  · next v hv =>
    split
    · split
      · exact endWithdrawal_moves n _ s
      · next hends =>
        split
        · exact endWithdrawal_moves n _ s
        · refine modQueue_moves n _ s fun w hw => ?_
          obtain rfl := Option.some.inj (hv.symm.trans hw)
          exact .of_retreat rfl rfl rfl (by simp [Service.ringEmpty] at hends; exact hends.1)
    · exact .refl s
  · exact .refl s

/-! ## The Key Unit -/

theorem modKeys_moves (n : Svc) (f : KeyCtx → KeyCtx) (s : State)
    (h : ∀ v, s.svc n = some v → EntryEdit sc v { v with keys := f v.keys }) : Moves sc s (s.modKeys n f) :=
  modSvc_moves n _ s h

/-- A key context changed in what is neither slot, phase nor protection state. -/
theorem modKeys_plain_moves (n : Svc) (f : KeyCtx → KeyCtx) (s : State)
    (hprot : ∀ k, (f k).prot = k.prot := by exact fun _ => rfl)
    (hphase : ∀ k, (f k).phase = k.phase := by exact fun _ => rfl)
    (hcur : ∀ k, k.current.isSome = true → (f k).current.isSome = true := by exact fun _ => id) :
    Moves sc s (s.modKeys n f) :=
  modKeys_moves n f s fun v _ => .of_prot_eq (f v.keys) rfl (hprot _) (hphase _) (hcur _)

theorem requestWanted_moves (n : Svc) (s : State) : Moves sc s (requestWanted n s) := by
  unfold requestWanted
  split
  · split
    · exact (modKeys_plain_moves n _ s).trans (Move.asked _ _ _ _).moves
    · exact .refl s
  · exact .refl s

theorem loadTimer_moves (n : Svc) (s : State) : Moves sc s (loadTimer n s) := by
  unfold loadTimer
  split
  · next v _ =>
    have hload : Moves sc s (s.modKeys n fun k =>
        { k with timer := { prescale := v.cfg.p, count := v.cfg.c }, requestMark := false }) :=
      modKeys_plain_moves n _ s
    dsimp only
    split
    · exact hload.trans (requestWanted_moves n _)
    · exact hload
  · exact .refl s

theorem leadTest_moves (n : Svc) (s : State) : Moves sc s (leadTest n s) := by
  unfold leadTest
  split
  · split
    · exact requestWanted_moves n s
    · exact .refl s
  · exact .refl s

theorem requestCurrent_moves (n : Svc) (s : State) : Moves sc s (requestCurrent n s) := by
  unfold requestCurrent
  split
  · exact (Move.asked _ _ _ _).moves
  · exact .refl s

/-- A service that sends its pictures scrambled (R159). -/
def Scrambles (v : Service) : Prop :=
  v.keys.prot = some .scrambled ∨ v.keys.prot = some .deferred ∨ v.keys.prot = some .late

/-- A protection state other than CLEAR is left for another such state, and a scrambling one is entered with a current key:
the law of R133 and R161 stays. -/
theorem protectionLaw_of_prot_change {v w : Service} {a b : ProtState} (h : v.protectionLaw) (hcfg : w.cfg = v.cfg)
    (hact : w.activity = .defined ↔ v.activity = .defined) (ha : v.keys.prot = some a) (ha' : a ≠ .clear)
    (hb : w.keys.prot = some b) (hb' : b ≠ .clear) (hkey : Scrambles w → w.keys.current.isSome = true) :
    w.protectionLaw := by
  obtain ⟨hdef, hclear, -⟩ := h
  rw [ha] at hdef hclear
  have hscrambled : v.cfg.protection ≠ .clear := by
    intro hp
    exact ha' (Option.some.inj ((hclear (Option.some_ne_none a)).mpr hp))
  refine ⟨?_, fun _ => ?_, hkey⟩
  · rw [hact, hdef, hb]; simp
  · rw [hcfg, hb]; simp [hb', hscrambled]

theorem current_isSome_of_ready {nmin : Nat} {x : Option KeySlot} (h : slotReady nmin x = true) : x.isSome = true := by
  cases x with
  | none => cases h
  | some _ => rfl

/-- The keys a changeover leaves (R137). -/
def turnedKeys (v : Service) (frame : Word) : KeyCtx :=
  { v.keys.setSlot v.keys.phase none with
    phase := v.keys.phase.other
    generation := v.keys.generation + 1
    stamp := some frame
    prot := some .scrambled
    deferral := 0
    countdown := v.cfg.e }

theorem turnedKeys_current (v : Service) (frame : Word) : (turnedKeys v frame).current = v.keys.next := by
  cases hp : v.keys.phase <;> simp [turnedKeys, KeyCtx.current, KeyCtx.next, KeyCtx.slot, KeyCtx.setSlot, hp, Phase.other]

theorem changeover_moves (n : Svc) (s : State) (hr : sc.rekeys)
    (h : sc.strict → ∀ v ∈ s.svc n, v.ready = true ∧ Scrambles v) : Moves sc s (changeover n s) := by
  unfold changeover
  split
  · next v hv =>
    have hturn : Moves sc s (s.modSvc n fun v => { v with cellSeq := 0, keys := turnedKeys v s.frameNumber }) := by
      refine modSvc_moves n _ s fun w hw => .of_keys _ rfl (fun hstrict hlaw => ?_) (.inl hr)
      obtain ⟨hready, hscr⟩ := h hstrict w hw
      have hcur : (turnedKeys w s.frameNumber).current.isSome = true :=
        turnedKeys_current w s.frameNumber ▸ current_isSome_of_ready hready
      rcases hscr with hprot | hprot | hprot <;>
        exact protectionLaw_of_prot_change hlaw rfl Iff.rfl hprot (by decide) (b := .scrambled) rfl (by decide) fun _ => hcur
    have hdrop := hturn.trans (Move.dropped (fun r => r.service == n) _).moves
    dsimp only
    split
    · exact hdrop.trans (loadTimer_moves n _)
    · exact hdrop
  · exact .refl s

theorem modSvc_modSvc (n : Svc) (f g : Service → Service) (s : State) :
    (s.modSvc n f).modSvc n g = s.modSvc n (g ∘ f) := by
  cases hv : s.svc n with
  | none => simp [State.modSvc, hv]
  | some v =>
    have hset : (s.putSvc n (some (f v))).svc n = some (f v) := by simp
    rw [State.modSvc_some s n f v hv, State.modSvc_some s n (g ∘ f) v hv, State.modSvc_some _ n g _ hset]
    simp [State.putSvc, Vector.set_set]

theorem modSvc_id (n : Svc) (s : State) : s.modSvc n id = s := by
  unfold State.modSvc
  split
  · next v hv =>
    have hget : s.services[n.val] = some v := hv
    simp [State.putSvc, ← hget]
  · rfl

theorem modKeys_modKeys (n : Svc) (f g : KeyCtx → KeyCtx) (s : State) :
    (s.modKeys n f).modKeys n g = s.modKeys n (g ∘ f) :=
  modSvc_modSvc n _ _ s

/-- Entry to BLACKOUT, after a change of the keys that leaves it to BLACKOUT to keep the law of R133 and R161. -/
theorem enterBlackout_modKeys_moves (n : Svc) (f : KeyCtx → KeyCtx) (s : State) (hphase : ∀ k, (f k).phase = k.phase)
    (h : sc.strict → ∀ v ∈ s.svc n, v.protectionLaw → ∃ a, v.keys.prot = some a ∧ a ≠ .clear) :
    Moves sc s (enterBlackout n (s.modKeys n f)) := by
  unfold enterBlackout
  rw [modKeys_modKeys]
  refine Moves.trans (modKeys_moves n _ s fun v hv => .of_keys _ rfl (fun hstrict hlaw => ?_) (.inr (by exact hphase _)))
    (Moves.trans (Move.fault n _ _).moves (requestCurrent_moves n _))
  obtain ⟨a, ha, ha'⟩ := h hstrict v hv hlaw
  exact protectionLaw_of_prot_change hlaw rfl Iff.rfl ha ha' (b := .blackout) rfl (by decide) fun hs => by
    rcases hs with hs | hs | hs <;> cases hs

theorem enterBlackout_moves (n : Svc) (s : State)
    (h : sc.strict → ∀ v ∈ s.svc n, v.protectionLaw → ∃ a, v.keys.prot = some a ∧ a ≠ .clear) : Moves sc s (enterBlackout n s) := by
  have hmoves := enterBlackout_modKeys_moves n id s (fun _ => rfl) h
  rwa [State.modKeys, show (fun v : Service => { v with keys := id v.keys }) = id from rfl, modSvc_id] at hmoves

theorem exitBlackout_moves (n : Svc) (s : State)
    (h : sc.strict → ∀ v ∈ s.svc n, v.keys.prot = some .blackout ∧ v.keys.current.isSome = true) :
    Moves sc s (exitBlackout n s) := by
  unfold exitBlackout
  split
  · have hexit : Moves sc s (s.modSvc n fun v => { v with cellSeq := 0, keys := { v.keys with prot := some .scrambled } }) := by
      refine modSvc_moves n _ s fun w hw => .of_keys _ rfl (fun hstrict hlaw => ?_) (.inr rfl)
      obtain ⟨hprot, hcur⟩ := h hstrict w hw
      exact protectionLaw_of_prot_change hlaw rfl Iff.rfl hprot (by decide) (b := .scrambled) rfl (by decide) fun _ => hcur
    dsimp only
    split
    · exact hexit
    · exact hexit.trans ((modKeys_plain_moves n _ _).trans (loadTimer_moves n _))
  · exact .refl s

theorem submitEntitlement_moves (n : Svc) (s : State) : Moves sc s (submitEntitlement n s) := by
  unfold submitEntitlement
  split
  · exact .refl s
  · next hn =>
    exact (Move.due _ fun h => List.nodup_append.mpr ⟨h, List.nodup_singleton n, fun a ha b hb hab => hn (by
      rw [List.mem_singleton] at hb; rw [← hb, ← hab]; exact ha)⟩).moves

theorem countdownExpiry_moves (n : Svc) (s : State) : Moves sc s (countdownExpiry n s) :=
  Moves.trans (modSvc_moves n _ s fun v _ => .of_prot_eq { v.keys with countdown := v.cfg.e } rfl rfl rfl id) (submitEntitlement_moves n _)

theorem periodExpiry_moves (n : Svc) (s : State) (hr : sc.rekeys) (h : sc.strict → s.workLaw (.period n)) :
    Moves sc s (periodExpiry n s) := by
  have hscr : sc.strict → ∀ v ∈ s.svc n, v.keys.prot = some .scrambled := by
    intro hstrict v hv
    obtain ⟨w, hw, hprot⟩ := h hstrict
    rwa [Option.some.inj (hv.symm.trans hw)]
  unfold periodExpiry
  split
  · next v hv =>
    split
    · next hready =>
      refine changeover_moves n s hr fun hstrict w hw => ?_
      obtain rfl := Option.some.inj (hv.symm.trans hw)
      exact ⟨hready, .inl (hscr hstrict v hv)⟩
    · have hdefer : Moves sc s (s.modKeys n fun k => { k with prot := some .deferred, deferral := 0 }) := by
        refine modKeys_moves n _ s fun w hw => .of_keys _ rfl (fun hstrict hlaw => ?_) (.inr rfl)
        have hprot := hscr hstrict w hw
        exact protectionLaw_of_prot_change hlaw rfl Iff.rfl hprot (by decide) (b := .deferred) rfl (by decide)
          (fun _ => hlaw.2.2 (.inl hprot))
      dsimp only
      split
      · exact hdefer.trans (Move.asked _ _ _ _).moves
      · exact hdefer
  · exact .refl s

theorem windowExpiry_moves (n : Svc) (s : State) (h : sc.strict → s.workLaw (.window n)) :
    Moves sc s (windowExpiry n s) := by
  have hwin : sc.strict → ∀ v ∈ s.svc n, v.keys.prot = some .window := by
    intro hstrict v hv
    obtain ⟨w, hw, hprot⟩ := h hstrict
    rwa [Option.some.inj (hv.symm.trans hw)]
  unfold windowExpiry
  split
  · next v hv =>
    split
    · next hready =>
      refine Moves.trans (modKeys_moves n _ s fun w hw => .of_keys _ rfl (fun hstrict hlaw => ?_) (.inr rfl))
        (loadTimer_moves n _)
      obtain rfl := Option.some.inj (hv.symm.trans hw)
      exact protectionLaw_of_prot_change hlaw rfl Iff.rfl (hwin hstrict v hv) (by decide) (b := .scrambled) rfl (by decide)
        fun _ => current_isSome_of_ready hready
    · refine (Move.fault n _ s).moves.trans (enterBlackout_moves n _ fun hstrict w hw _ => ?_)
      rw [raiseFault_some n _ s v hv, State.svc_putSvc, if_pos rfl] at hw
      obtain rfl := Option.some.inj hw
      exact ⟨.window, hwin hstrict v hv, by decide⟩
  · exact .refl s

theorem deferralExpiry_moves (n : Svc) (s : State) (h : sc.strict → s.workLaw (.deferral n)) :
    Moves sc s (deferralExpiry n s) := by
  refine Moves.trans (modKeys_moves n _ s fun w hw => .of_keys _ rfl (fun hstrict hlaw => ?_) (.inr rfl))
    (Move.fault n _ _).moves
  obtain ⟨v, hv, hprot⟩ := h hstrict
  obtain rfl := Option.some.inj (hw.symm.trans hv)
  exact protectionLaw_of_prot_change hlaw rfl Iff.rfl hprot (by decide) (b := .late) rfl (by decide)
    (fun _ => hlaw.2.2 (.inr (.inl hprot)))

end Sys2Proof.Proofs
end

section
/-! PROOF. The moves of expiries, frame starts and port commands. -/

namespace Sys2Proof.Proofs

open Sys2Proof.Machine

variable {sc : Scope} {s t u : State}

/-! ## Expiries -/

theorem setPhase_moves (ph : WorkPhase) (s : State) : Moves sc s (setPhase ph s) := by
  unfold setPhase
  split
  · next w hw => exact (Move.worked _ hw).moves
  · exact .refl s

theorem finishRecord_moves (s : State) : Moves sc s s.finishRecord := by
  unfold State.finishRecord
  split
  · next w hw => exact (Move.finished hw).moves
  · exact .refl s

theorem breakClose_moves (n : Svc) (s : State) : Moves sc s (breakClose n s) := by
  unfold breakClose
  split
  · exact setPhase_moves _ s
  · split
    · exact setPhase_moves _ s
    · exact .refl s

theorem silenceExpiry_moves (n : Svc) (s : State) : Moves sc s (silenceExpiry n s) := by
  have hstall (t : State) : Moves sc t (t.modSvc n fun v =>
      if v.activity = .running then { v with activity := .stalled } else v) := by
    refine modSvc_moves n _ t fun v _ => ?_
    split
    · next hrun => exact .of_keys_eq (.of_eq rfl rfl rfl) (.of_eq rfl) (hact := by simp [hrun])
    · exact .refl sc v
  unfold silenceExpiry
  dsimp only
  split
  · exact (abandonPicture_moves n s).trans ((breakClose_moves n _).trans ((Move.fault n _ _).moves.trans (hstall _)))
  · exact (Move.fault n _ s).moves.trans (hstall _)

/-- The entries of participants that are listed, each replaced. -/
theorem foldl_putSvc_moves (f : Svc × Service → Service) (hf : ∀ x, EntryEdit sc x.2 (f x)) (l : List (Svc × Service))
    (s : State) (hnodup : (l.map Prod.fst).Nodup) (hl : ∀ x ∈ l, s.svc x.1 = some x.2) :
    Moves sc s (l.foldl (fun t x => t.putSvc x.1 (some (f x))) s) := by
  induction l generalizing s with
  | nil => exact .refl s
  | cons x l ih =>
    obtain ⟨hx, hl⟩ := List.forall_mem_cons.mp hl
    obtain ⟨hnew, hnodup⟩ := List.nodup_cons.mp hnodup
    refine Moves.trans (Move.entry hx (hf x)).moves (ih _ hnodup fun y hy => ?_)
    have hne : y.1 ≠ x.1 := fun he => hnew (he ▸ List.mem_map_of_mem hy)
    rw [State.svc_putSvc, if_neg hne]
    exact hl y hy

theorem nodup_allServices : allServices.Nodup := by decide

theorem mem_participants_iff (s : State) (x : Svc × Service) :
    x ∈ s.participants ↔ s.svc x.1 = some x.2 ∧ x.2.participant = true := by
  obtain ⟨n, v⟩ := x
  simp only [State.participants, List.mem_filterMap]
  constructor
  · rintro ⟨m, -, hm⟩
    split at hm
    · next w hw =>
      split at hm
      · next hp =>
        cases hm
        exact ⟨hw, hp⟩
      · cases hm
    · cases hm
  · rintro ⟨hv, hp⟩
    exact ⟨n, mem_allServices n, by simp only [hv, hp, if_true]⟩

/-- The participants are listed by ascending number, each once. -/
theorem map_fst_participants (s : State) : s.participants.map Prod.fst = allServices.filter s.isParticipant := by
  unfold State.participants
  rw [List.map_filterMap]
  induction allServices with
  | nil => rfl
  | cons n l ih =>
    rw [List.filterMap_cons, List.filter_cons, ← ih]
    cases hv : s.svc n with
    | none => simp [State.isParticipant, hv]
    | some v => cases hp : v.participant <;> simp [State.isParticipant, hv, hp]

theorem allocatePeriod_moves (s : State) : Moves sc s (allocatePeriod s) := by
  refine foldl_putSvc_moves (fun x => x.2.granted (grantOf s.frameStruct s.participants x.1 x.2)) (fun x => ?_) _ s ?_
    fun x hx => ((mem_participants_iff s x).mp hx).1
  · exact .of_keys_eq (.of_eq rfl rfl rfl) (.of_eq rfl) (hdeficit := fun _ => le_rfl)
  · rw [map_fst_participants]
    exact nodup_allServices.filter _

theorem takeWork_moves (w : FrameWork) (s : State) (hr : sc.rekeys) (h : sc.strict → s.workLaw w) :
    Moves sc s (takeWork w s) := by
  cases w with
  | silence n => exact silenceExpiry_moves n s
  | period n => exact periodExpiry_moves n s hr h
  | window n => exact windowExpiry_moves n s h
  | countdown n => exact countdownExpiry_moves n s
  | deferral n => exact deferralExpiry_moves n s h
  | allocate => exact allocatePeriod_moves s

/-- Outstanding work settled, where nothing is asked of the protection states. -/
theorem settle_moves (s : State) (hr : sc.rekeys) (hn : sc.notes) (h : ¬ sc.strict) : Moves sc s (settle s) :=
  Moves.trans (t := { s with frameDue := [] }) (quiet_moves rfl rfl (.inl hn))
    (Moves.foldl (fun t w => takeWork w t) (fun t w => takeWork_moves w t hr fun hs => absurd hs h) _ _)

theorem takeOutstanding_moves (w : FrameWork) (s : State) (hr : sc.rekeys) (hn : sc.notes)
    (h : sc.strict → w ∈ s.frameDue → s.workLaw w) : Moves sc s (takeOutstanding w s) := by
  unfold takeOutstanding
  split
  · next hw =>
    refine Moves.trans (t := { s with frameDue := s.frameDue.erase w }) (quiet_moves rfl rfl (.inl hn))
      (takeWork_moves w _ hr fun hs => ?_)
    have hlaw := h hs hw
    cases w <;> exact hlaw
  · exact .refl s

/-! ## The frame start -/

theorem noteWork_moves (w : FrameWork) (s : State) (hn : sc.notes) : Moves sc s (noteWork w s) :=
  quiet_moves rfl rfl (.inl hn)

theorem silenceTick_moves (n : Svc) (s : State) (hn : sc.notes) : Moves sc s (silenceTick n s) := by
  have hcount (f : Service → IngestCtx) (hf : ∀ v, (f v).state = v.ingest.state) :
      Moves sc s (s.modSvc n fun v => { v with ingest := f v }) :=
    modSvc_moves n _ s fun v _ =>
      .of_keys_eq (.of_eq rfl rfl rfl) (.of_eq (by simp only [Service.picture, hf]))
  unfold silenceTick
  split
  · next v _ =>
    split
    · split
      · exact (hcount (fun w => { w.ingest with silence := w.cfg.z, expired := true }) fun _ => rfl).trans
          (noteWork_moves _ _ hn)
      · exact hcount (fun w => { w.ingest with silence := w.ingest.silence + 1 }) fun _ => rfl
    · exact .refl s
  · exact .refl s

theorem countdownTick_moves (n : Svc) (s : State) (hn : sc.notes) : Moves sc s (countdownTick n s) := by
  unfold countdownTick
  split
  · split
    · have hcount : Moves sc s (s.modKeys n fun k => { k with countdown := k.countdown - 1 }) :=
        modKeys_plain_moves n _ s
      dsimp only
      split
      · exact hcount.trans (noteWork_moves _ _ hn)
      · exact hcount
    · exact .refl s
  · exact .refl s

theorem timerTick_moves (w : FrameWork) (n : Svc) (s : State) (hn : sc.notes) : Moves sc s (timerTick w n s) := by
  unfold timerTick
  split
  · next v _ =>
    have hstep : Moves sc s (s.modKeys n fun k => { k with timer := v.keys.timer.step v.cfg.p }) :=
      modKeys_plain_moves n _ s
    dsimp only
    split
    · exact hstep.trans (noteWork_moves _ _ hn)
    · exact hstep.trans (leadTest_moves n _)
  · exact .refl s

theorem deferredTick_moves (n : Svc) (s : State) (hr : sc.rekeys) (hn : sc.notes) (h : ∀ v ∈ s.svc n, Scrambles v) :
    Moves sc s (deferredTick n s) := by
  unfold deferredTick
  split
  · next v hv =>
    split
    · next hready =>
      refine changeover_moves n s hr fun _ w hw => ?_
      obtain rfl := Option.some.inj (hv.symm.trans hw)
      exact ⟨hready, h v hv⟩
    · have hcount : Moves sc s (s.modKeys n fun k => { k with deferral := k.deferral + 1 }) :=
        modKeys_plain_moves n _ s
      dsimp only
      split
      · exact hcount.trans (noteWork_moves _ _ hn)
      · exact hcount
  · exact .refl s

theorem changeoverIfReady_moves (n : Svc) (s : State) (hr : sc.rekeys) (h : ∀ v ∈ s.svc n, Scrambles v) :
    Moves sc s (changeoverIfReady n s) := by
  unfold changeoverIfReady
  split
  · next v hv =>
    split
    · next hready =>
      refine changeover_moves n s hr fun _ w hw => ?_
      obtain rfl := Option.some.inj (hv.symm.trans hw)
      exact ⟨hready, h v hv⟩
    · exact .refl s
  · exact .refl s

theorem periodWork_moves (n : Svc) (v : Service) (s : State) (hr : sc.rekeys) (hn : sc.notes)
    (h : ∀ w ∈ s.svc n, w.keys.prot = v.keys.prot) : Moves sc s (periodWork n v s) := by
  unfold periodWork
  split
  · exact timerTick_moves _ n s hn
  · next hprot =>
    split
    · exact timerTick_moves _ n s hn
    · exact changeoverIfReady_moves n s hr fun w hw => .inl ((h w hw).trans hprot)
  · next hprot => exact deferredTick_moves n s hr hn fun w hw => .inr (.inl ((h w hw).trans hprot))
  · next hprot => exact changeoverIfReady_moves n s hr fun w hw => .inr (.inr ((h w hw).trans hprot))
  all_goals exact .refl s

/-- The countdown of a frame start leaves the protection state of every service. -/
theorem countdownTick_prot {n : Svc} {v : Service} (hv : s.svc n = some v) :
    ∀ w ∈ (countdownTick n s).svc n, w.keys.prot = v.keys.prot := by
  have hcount : ∀ w ∈ (s.modKeys n fun k => { k with countdown := k.countdown - 1 }).svc n,
      w.keys.prot = v.keys.prot := by
    rw [State.modKeys, State.svc_modSvc, if_pos rfl, hv]
    rintro w ⟨⟩
    rfl
  unfold countdownTick
  rw [hv]
  dsimp only
  split
  · split
    · exact hcount
    · exact hcount
  · rw [hv]
    rintro w ⟨⟩
    rfl

theorem keyTick_moves (n : Svc) (s : State) (hr : sc.rekeys) (hn : sc.notes) : Moves sc s (keyTick n s) := by
  unfold keyTick
  split
  · next v hv =>
    split
    · exact (countdownTick_moves n s hn).trans (periodWork_moves n v _ hr hn (countdownTick_prot hv))
    · exact .refl s
  · exact .refl s

theorem periodStart_moves (s : State) (hn : sc.notes) : Moves sc s (periodStart s) := by
  unfold periodStart
  split
  · split
    · exact allocatePeriod_moves s
    · exact noteWork_moves _ s hn
  · exact .refl s

theorem startFrame_moves (early order : List Svc) (s : State) (hr : sc.rekeys) (hn : sc.notes) :
    Moves sc s (startFrame early order s) := by
  have hsilence (l : List Svc) (t : State) : Moves sc t (silenceTicks l t) :=
    .foldl (fun t n => silenceTick n t) (fun t n => silenceTick_moves n t hn) l t
  exact (Move.frameBegun s).moves.trans ((hsilence _ _).trans ((periodStart_moves _ hn).trans ((hsilence _ _).trans
    (.foldl (fun t n => keyTick n t) (fun t n => keyTick_moves n t hr hn) _ _))))

/-! ## Key port commands -/

theorem named_eq_some {s : State} {b : Byte} {n : Svc} {v : Service} (h : s.named b = some (n, v)) :
    s.svc n = some v := by
  unfold State.named at h
  split at h
  · obtain ⟨w, hw, heq⟩ := Option.map_eq_some_iff.mp h
    cases heq
    exact hw
  · cases h

theorem current_setSlot_some (k : KeyCtx) (ph : Phase) (x : KeySlot) (h : k.current.isSome = true ∨ ph = k.phase) :
    (k.setSlot ph (some x)).current.isSome = true := by
  rw [KeyCtx.current, KeyCtx.setSlot_phase, KeyCtx.slot_setSlot]
  split
  · rfl
  · next hne => exact h.resolve_right (Ne.symm hne)

theorem storeKey_moves {n : Svc} {v : Service} (hv : s.svc n = some v) (ph : Phase) (key : BitVec 64)
    (payload : List Byte) : Moves sc s (storeKey n v ph key payload s) := by
  set x : KeySlot := { key := key, payload := payload, sent := 0 } with hx
  have hstored : Moves sc s (s.modKeys n fun k => { k.setSlot ph (some x) with generation := k.generation + 1 }) :=
    modKeys_plain_moves n _ s (fun k => k.setSlot_prot ph _) (fun k => k.setSlot_phase ph _)
      (fun k hk => by cases ph <;> exact current_setSlot_some k _ x (.inl hk))
  have hdrop := hstored.trans (Move.dropped (fun e => e.service == n && e.phase == ph) _).moves
  unfold storeKey loadedEffect
  split
  · split
    · exact hdrop.trans (modKeys_plain_moves n _ _)
    · next hph =>
      split
      · next hprot =>
        refine hdrop.trans ((exitBlackout_moves n _ fun _ w hw => ?_).trans (drainTest_moves n _))
        have hsvc : (s.modKeys n fun k => { k.setSlot ph (some x) with generation := k.generation + 1 }).svc n = some w :=
          hw
        rw [State.modKeys, State.svc_modSvc, if_pos rfl, hv] at hsvc
        cases hsvc
        refine ⟨(KeyCtx.setSlot_prot ..).trans hprot, ?_⟩
        have hcur := current_setSlot_some v.keys ph x (.inr (not_not.mp hph))
        cases ph <;> exact hcur
      · exact hdrop
  · exact hdrop

theorem loadKey_moves (nb pb : Byte) (expected : Half) (key : BitVec 64) (payload : List Byte) (s : State) :
    Moves sc s (loadKey nb pb expected key payload s).1 := by
  unfold loadKey
  split
  · exact .refl s
  · next n v hv =>
    split_ifs
    all_goals first
      | exact .refl s
      | exact storeKey_moves (named_eq_some hv) _ _ _

/-- A slot emptied, where it is not the current one that a scrambling service needs. -/
theorem modKeys_emptied_moves {n : Svc} {v : Service} (hv : s.svc n = some v) (f : KeyCtx → KeyCtx)
    (hprot : (f v.keys).prot = v.keys.prot) (hphase : (f v.keys).phase = v.keys.phase)
    (hcur : v.protectionLaw → Scrambles v → v.keys.current.isSome = true → (f v.keys).current.isSome = true) :
    Moves sc s (s.modKeys n f) := by
  refine modKeys_moves n f s fun w hw => ?_
  obtain rfl := Option.some.inj (hv.symm.trans hw)
  refine .of_keys _ rfl (fun _ hlaw => ?_) (.inr hphase)
  have hkeep := hcur hlaw
  obtain ⟨hdef, hclear, hkey⟩ := hlaw
  refine ⟨?_, ?_, ?_⟩
  all_goals dsimp only; rw [hprot]
  · exact hdef
  · exact hclear
  · exact fun hs => hkeep hs (hkey hs)

theorem emptyKey_moves {n : Svc} {v : Service} (hv : s.svc n = some v) (ph : Phase) :
    Moves sc s (emptyKey n v ph s) := by
  have hempty : (Scrambles v → ¬ (ph = v.keys.phase ∧ v.keys.current.isSome = true)) →
      Moves sc s (s.modKeys n fun k => { k.setSlot ph none with generation := k.generation + 1 }) := by
    intro h
    refine modKeys_emptied_moves hv _ (KeyCtx.setSlot_prot ..) (KeyCtx.setSlot_phase ..) fun _ hs hcur => ?_
    have hne : v.keys.phase ≠ ph := fun he => h hs ⟨he.symm, hcur⟩
    have hslot : (v.keys.setSlot ph none).current.isSome = true := by
      rwa [KeyCtx.current, KeyCtx.setSlot_phase, KeyCtx.slot_setSlot, if_neg hne]
    cases ph <;> exact hslot
  have hlost (a : ProtState) (ha : v.keys.prot = some a) (ha' : a ≠ .clear) :
      Moves sc s (if ph = v.keys.phase ∧ v.keys.current.isSome = true then
        enterBlackout n (s.modKeys n fun k => { k.setSlot ph none with generation := k.generation + 1 })
        else s.modKeys n fun k => { k.setSlot ph none with generation := k.generation + 1 }) := by
    split
    · refine enterBlackout_modKeys_moves n _ s (fun k => k.setSlot_phase ph _) fun _ w hw _ => ?_
      obtain rfl := Option.some.inj (hv.symm.trans hw)
      exact ⟨a, ha, ha'⟩
    · next h => exact hempty fun _ => h
  unfold emptyKey clearedEffect
  split
  · next hprot =>
    refine (hempty fun hs => ?_).trans (requestCurrent_moves n _)
    rcases hs with hs | hs | hs <;> rw [hs] at hprot <;> cases hprot
  · next hprot => exact hlost _ hprot (by decide)
  · next hprot => exact hlost _ hprot (by decide)
  · next hprot => exact hlost _ hprot (by decide)
  · next hprot => exact hlost _ hprot (by decide)
  all_goals
    next hprot =>
    refine hempty fun hs => ?_
    rcases hs with hs | hs | hs <;> rw [hs] at hprot <;> cases hprot

theorem clearKey_moves (nb pb : Byte) (expected : Half) (s : State) : Moves sc s (clearKey nb pb expected s).1 := by
  unfold clearKey
  split
  · exact .refl s
  · next n v hv =>
    split_ifs
    all_goals first
      | exact .refl s
      | exact emptyKey_moves (named_eq_some hv) _

/-- A SCRAMBLED participant is in a protection state other than CLEAR (R133). -/
theorem prot_of_scrambled {v : Service} (h : v.protectionLaw) (hpart : v.participant = true)
    (hscr : v.cfg.protection = .scrambled) : ∃ a, v.keys.prot = some a ∧ a ≠ .clear := by
  obtain ⟨hdef, hclear, -⟩ := h
  have hact : v.activity ≠ .defined := by simpa [Service.participant] using hpart
  obtain ⟨a, ha⟩ := Option.ne_none_iff_exists'.mp (hact ∘ hdef.mpr)
  refine ⟨a, ha, fun hc => ?_⟩
  have hp := (hclear (ha ▸ Option.some_ne_none a)).mp (hc ▸ ha)
  rw [hscr] at hp
  cases hp

theorem not_scrambles_of_unscrambled {v : Service} (h : v.protectionLaw)
    (hnot : ¬ (v.participant = true ∧ v.cfg.protection = .scrambled)) : ¬ Scrambles v := by
  obtain ⟨hdef, hclear, -⟩ := h
  intro hs
  have hprot : v.keys.prot ≠ none ∧ v.keys.prot ≠ some .clear := by
    rcases hs with hs | hs | hs <;> rw [hs] <;> decide
  refine hnot ⟨?_, ?_⟩
  · simpa [Service.participant] using fun hd => hprot.1 (hdef.mp hd)
  · cases hp : v.cfg.protection with
    | clear => exact absurd ((hclear hprot.1).mpr hp) hprot.2
    | scrambled => rfl

theorem purgeService_moves (n : Svc) (s : State) : Moves sc s (purgeService n s) := by
  unfold purgeService
  split
  · next v hv =>
    have hempty (h : v.protectionLaw → ¬ Scrambles v) :
        Moves sc s (s.modKeys n fun k => { k with slot0 := none, slot1 := none, generation := k.generation + 1 }) :=
      modKeys_emptied_moves hv _ rfl rfl fun hlaw hs => absurd hs (h hlaw)
    dsimp only
    split
    · next hscr =>
      split
      · next hprot =>
        refine (hempty fun _ hs => ?_).trans (requestCurrent_moves n _)
        rcases hs with hs | hs | hs <;> rw [hs] at hprot <;> cases hprot
      · refine enterBlackout_modKeys_moves n _ s (fun _ => rfl) fun _ w hw hlaw => ?_
        obtain rfl := Option.some.inj (hv.symm.trans hw)
        exact prot_of_scrambled hlaw hscr.1 hscr.2
    · next hnot => exact hempty fun hlaw => not_scrambles_of_unscrambled hlaw hnot
  · exact .refl s

theorem purgeKeys_moves (s : State) : Moves sc s (purgeKeys s).1 := by
  unfold purgeKeys
  dsimp only
  exact Moves.foldl (fun t n => purgeService n t) (fun t n => purgeService_moves n t) _ s

/-! ## Service commands -/

theorem putSvc_putSvc (n : Svc) (v w : Option Service) (s : State) : (s.putSvc n v).putSvc n w = s.putSvc n w := by
  simp [State.putSvc, Vector.set_set]

theorem modKeys_putSvc (n : Svc) (v : Service) (f : KeyCtx → KeyCtx) (s : State) :
    (s.putSvc n (some v)).modKeys n f = s.putSvc n (some { v with keys := f v.keys }) := by
  rw [State.modKeys, State.modSvc_some _ n _ v (by simp), putSvc_putSvc]

/-- A start with its protection state (R14, R15). -/
theorem started_moves {n : Svc} {v : Service} (hv : s.svc n = some v) (hact : v.activity = .defined)
    (hfits : capacityOk s n v.cfg = true) (f : KeyCtx → KeyCtx) (a : ProtState)
    (ha : (f v.started.keys).prot = some a) (hclear : a = .clear ↔ v.cfg.protection = .clear)
    (hphase : (f v.started.keys).phase = v.keys.phase)
    (hkey : a = .scrambled → (f v.started.keys).current.isSome = true) (hsend : a ≠ .deferred ∧ a ≠ .late) :
    Moves sc s ((s.putSvc n (some v.started)).modKeys n f) := by
  rw [modKeys_putSvc]
  refine (Move.started hv hact hfits (fun _ _ => ⟨?_, fun _ => ?_, fun hs => ?_⟩) hphase).moves
  all_goals dsimp only at *
  · rw [ha]; simp [Service.started]
  · rw [ha, Option.some_inj]; exact hclear
  · rw [ha] at hs
    simp only [Option.some_inj] at hs
    exact hkey (hs.resolve_right fun h => h.elim hsend.1 hsend.2)

theorem startProtection_moves {n : Svc} {v : Service} (hv : s.svc n = some v) (hact : v.activity = .defined)
    (hfits : capacityOk s n v.cfg = true) : Moves sc s (startProtection n v (s.putSvc n (some v.started))) := by
  have hblack (hscr : v.cfg.protection = .scrambled) :
      Moves sc s (enterBlackout n (s.putSvc n (some v.started))) :=
    (started_moves hv hact hfits _ .blackout rfl (by simp [hscr]) rfl (fun h => nomatch h) (by decide)).trans
      ((Move.fault n _ _).moves.trans (requestCurrent_moves n _))
  unfold startProtection
  split
  · next hclear => exact started_moves hv hact hfits _ .clear rfl (by simp [hclear]) rfl (fun h => nomatch h) (by decide)
  · next hscr =>
    split
    · exact (started_moves hv hact hfits _ .window rfl (by simp [hscr]) rfl (fun h => nomatch h) (by decide)).trans
        (loadTimer_moves n _)
    · split
      · next hcur =>
        exact (started_moves hv hact hfits _ .scrambled rfl (by simp [hscr]) rfl (fun _ => hcur) (by decide)).trans
          (loadTimer_moves n _)
      · exact hblack hscr
    · split
      · next hcur =>
        exact started_moves hv hact hfits _ .scrambled rfl (by simp [hscr]) rfl (fun _ => hcur) (by decide)
      · exact hblack hscr

theorem startCountdown_moves (n : Svc) (v : Service) (s : State) : Moves sc s (startCountdown n v s) := by
  unfold startCountdown
  split
  · exact modKeys_plain_moves n _ s
  · exact .refl s

theorem activity_of_not_participant {v : Service} (h : ¬ v.participant = true) : v.activity = .defined := by
  simpa [Service.participant] using h

theorem activity_of_participant {v : Service} (h : v.participant = true) : v.activity ≠ .defined := by
  simpa [Service.participant] using h

theorem startService_moves (nb : Byte) (s : State) : Moves sc s (startService nb s).1 := by
  unfold startService
  split
  · exact .refl s
  · next n v hv =>
    split_ifs with hpart hfits
    · exact .refl s
    · exact .refl s
    · exact (startProtection_moves (named_eq_some hv) (activity_of_not_participant hpart) (by simpa using hfits)).trans
        (startCountdown_moves n v _)

theorem stopToDrain_moves {n : Svc} {v : Service} (hv : s.svc n = some v) (hact : v.activity ≠ .defined) :
    Moves sc s (stopToDrain n v s) := by
  unfold stopToDrain
  split
  · next hdrained =>
    refine enterDefined_moves hv ?_
    simp only [Service.drained, Bool.and_eq_true, Option.isNone_iff_eq_none] at hdrained
    exact hdrained.1.1.1
  · refine modSvc_moves n _ s fun w hw => ?_
    obtain rfl := Option.some.inj (hv.symm.trans hw)
    exact .of_keys_eq (.of_eq rfl rfl rfl) (.of_eq rfl) (hact := by simp [hact])

theorem dropRecordOf_moves (n : Svc) (s : State) : Moves sc s (dropRecordOf n s) := by
  unfold dropRecordOf
  split
  · split
    · exact finishRecord_moves s
    · exact .refl s
  · exact .refl s

theorem modSvc_none {n : Svc} {f : Service → Service} (h : s.svc n = none) : s.modSvc n f = s := by
  simp [State.modSvc, h]

theorem dropRecordOf_modSvc (n m : Svc) (f : Service → Service) (s : State) :
    dropRecordOf n (s.modSvc m f) = (dropRecordOf n s).modSvc m f := by
  simp only [dropRecordOf, State.finishRecord, State.modSvc_packer]
  cases hp : s.packer with
  | none => rfl
  | some w =>
    dsimp only
    split
    · cases hv : s.svc m with
      | none => rw [modSvc_none hv, modSvc_none (by exact hv)]
      | some v => rw [State.modSvc_some s m f v hv, State.modSvc_some _ m f v (by exact hv)]; rfl
    · rfl

theorem finishRecord_svc (s : State) (m : Svc) : s.finishRecord.svc m = s.svc m := by
  unfold State.finishRecord
  split <;> rfl

theorem dropRecordOf_svc (n m : Svc) (s : State) : (dropRecordOf n s).svc m = s.svc m := by
  unfold dropRecordOf
  split
  · split
    · exact finishRecord_svc s m
    · rfl
  · rfl

/-- An entry to DEFINED leaves IDLE, whatever the ingest state before (R6). -/
theorem enterDefined_setIngest (n : Svc) (st : IngestState) (s : State) :
    enterDefined n (s.modSvc n fun v => v.setIngest st) = enterDefined n s := by
  simp only [enterDefined, modSvc_modSvc, State.modSvc_dueList]
  rfl

theorem flushService_moves {n : Svc} {v : Service} (hv : s.svc n = some v) : Moves sc s (flushService n v s) := by
  set empty : Service → Service := fun v =>
    { v with queue := { v.queue with read := v.queue.write, marker := none, withdrawal := none } } with hempty
  have hring (w : Service) : KeepsRing w (empty w) := .of_empty rfl rfl fun h => h.2.2
  have hflush (t : State) (w : Service) (hw : t.svc n = some w) (hclosed : w.picture = none) :
      Moves sc t (enterDefined n (dropRecordOf n (t.modSvc n empty))) := by
    refine (modSvc_moves n empty t fun w _ => .of_keys_eq (hring w) (.of_eq rfl)).trans
      ((dropRecordOf_moves n _).trans (enterDefined_moves (v := empty w) ?_ hclosed))
    rw [dropRecordOf_modSvc, State.svc_modSvc, if_pos rfl]
    rw [dropRecordOf_svc, hw]
    rfl
  unfold flushService dropPictureUser
  split
  · next p hp =>
    have hclose := (Move.closed (sc := sc) (st := .idle) hv hp rfl).moves
    rw [← State.modSvc_some ({ s with quant := s.quant.dropUser p.bank } : State) n (fun v => v.setIngest .idle) v hv]
      at hclose
    refine hclose.trans ?_
    have hgoal := hflush (({ s with quant := s.quant.dropUser p.bank } : State).modSvc n fun v => v.setIngest .idle)
      (v.setIngest .idle) (by rw [State.svc_modSvc, if_pos rfl]; exact congrArg (Option.map _) hv) rfl
    rw [modSvc_modSvc, show empty ∘ (fun v : Service => v.setIngest .idle) = (fun v => v.setIngest .idle) ∘ empty from rfl,
      ← modSvc_modSvc, dropRecordOf_modSvc, enterDefined_setIngest] at hgoal
    exact hgoal
  · next hp => exact hflush s v hv hp

theorem stopService_moves (nb flush : Byte) (s : State) : Moves sc s (stopService nb flush s).1 := by
  unfold stopService
  split
  · exact .refl s
  · next n v hv =>
    split_ifs with hbusy
    · exact .refl s
    · exact stopToDrain_moves (named_eq_some hv) fun h => hbusy (.inl h)
    · exact flushService_moves (named_eq_some hv)
    · exact .refl s

theorem releaseService_moves (nb : Byte) (s : State) : Moves sc s (releaseService nb s).1 := by
  unfold releaseService
  split
  · exact .refl s
  · next n v hv =>
    split
    · exact .refl s
    · next hpart =>
      exact (Move.dropped (fun r => r.service == n) s).moves.trans
        (Move.released (s := dropServiceRequests n s) (named_eq_some hv) (activity_of_not_participant hpart)).moves

theorem defineService_moves (nb : Byte) (b : CfgBlock) (s : State) (hr : sc.rekeys) :
    Moves sc s (defineService nb b s).1 := by
  unfold defineService
  split
  · exact .refl s
  · next n _ =>
    split_ifs with hused hrange hoverlap
    · exact .refl s
    · exact .refl s
    · exact .refl s
    · exact (Move.created hr (by simpa using hused) (by simpa using hrange) (by simpa using hoverlap)).moves

theorem modifyService_moves (nb : Byte) (expected : Half) (mask : BitVec 24) (b : CfgBlock) (s : State)
    (hr : sc.rekeys) : Moves sc s (modifyService nb expected mask b s).1 := by
  unfold modifyService
  split
  · exact .refl s
  · next n v hv =>
    dsimp only
    split_ifs with hstale hlive hrange hoverlap hfits
    · exact .refl s
    · exact .refl s
    · exact .refl s
    · exact .refl s
    · exact .refl s
    · exact (Move.modified hr (named_eq_some hv) (Bool.eq_false_iff.mpr hlive) (by simpa using hrange)
        (Bool.eq_false_iff.mpr hoverlap) (Bool.eq_false_iff.mpr hfits)).moves

/-! ## The ports -/

/-- A request that gives an entry a phase of its configuration. -/
def setsPhase : Request → Prop
  | .svcDefine .. | .svcModify .. => True
  | _ => False

/-- A request that writes a weight bank. -/
def writesBank : Request → Prop
  | .weightsLoad .. => True
  | _ => False

theorem runRequest_moves (r : Request) (s : State) (hr : setsPhase r → sc.rekeys) (hl : writesBank r → sc.loads) :
    Moves sc s (runRequest r s).1 := by
  cases r with
  | svcDefine n cfg => exact defineService_moves n cfg s (hr trivial)
  | svcModify n expected mask cfg => exact modifyService_moves n expected mask cfg s (hr trivial)
  | svcStart n => exact startService_moves n s
  | svcStop n flush => exact stopService_moves n flush s
  | svcRelease n => exact releaseService_moves n s
  | weightsLoad intra predicted =>
    dsimp only [runRequest, loadWeights]
    split_ifs
    · exact .refl s
    · exact .refl s
    · exact (Move.loaded intra predicted (hl trivial)).moves
  | muxSet f l a =>
    dsimp only [runRequest, setMux]
    split_ifs with hbusy hrange
    · exact .refl s
    · exact .refl s
    · exact (Move.muxSet (by omega) (by simpa using hrange)).moves
  | reset => exact (Move.cleared s).moves
  | faultsAck n =>
    dsimp only [runRequest, ackFaults]
    split
    · exact .refl s
    · next m v hv => exact (Move.acknowledged (named_eq_some hv)).moves
  | checkClear => exact (Move.checkCleared s).moves
  | checkMode m =>
    dsimp only [runRequest, setCheckMode]
    split
    · exact .refl s
    · exact quiet_moves rfl rfl
  | keyLoad n ph expected key payload => exact loadKey_moves n ph expected key payload s
  | keyClear n ph expected => exact clearKey_moves n ph expected s
  | keyPurge => exact purgeKeys_moves s
  | svcQuery n =>
    dsimp only [runRequest, queryService]
    split <;> exact .refl s
  | faultsRead n =>
    dsimp only [runRequest, readFaults]
    split <;> exact .refl s
  | keyStatus n selector =>
    dsimp only [runRequest, keyStatus]
    split
    · exact .refl s
    · split <;> exact .refl s
  | weightsQuery | muxQuery | status | checkRead | requestsRead => exact .refl s

theorem setPort_moves (p : PortId) (v : Port) (s : State) : Moves sc s (s.setPort p v) := by
  cases p <;> exact quiet_moves rfl rfl

theorem takeRequest_moves (p : PortId) (r : Request) (s : State) (hr : setsPhase r → sc.rekeys)
    (hl : writesBank r → sc.loads) : Moves sc s (takeRequest p r s) :=
  (setPort_moves p _ s).trans ((runRequest_moves r _ hr hl).trans (setPort_moves p _ _))

theorem refuseRequest_moves (p : PortId) (code : Byte) (resp : RespCode) (s : State) :
    Moves sc s (refuseRequest p code resp s) :=
  (setPort_moves p _ s).trans (setPort_moves p _ _)

theorem endFrame_moves (p : PortId) (received : List Byte) (s : State)
    (hr : ∀ r, frameRequest p ((s.port p).rx ++ received) = .request r → setsPhase r → sc.rekeys)
    (hl : ∀ r, frameRequest p ((s.port p).rx ++ received) = .request r → writesBank r → sc.loads) :
    Moves sc s (endFrame p received s) := by
  unfold endFrame
  dsimp only
  refine Moves.trans (t := closeFrame p ((s.port p).rx ++ received) s) (setPort_moves p _ s) ?_
  split_ifs
  · exact .refl _
  · exact (Move.check _ _ _ _).moves
  · split
    · exact (Move.check _ _ _ _).moves.trans (refuseRequest_moves p _ _ _)
    · exact refuseRequest_moves p _ _ _
    · next r h => exact takeRequest_moves p r _ (hr r h) (hl r h)

end Sys2Proof.Proofs
end

section
/-! PROOF. The moves of the slots and of the Packer, and of every command. -/

namespace Sys2Proof.Proofs

open Sys2Proof.Machine

variable {sc : Scope} {s t u : State}

/-! ## Slots -/

theorem deliver_moves (cell : List Byte) (s : State) : Moves sc s (s.deliver cell) := quiet_moves rfl rfl

theorem countSend_moves (n : Svc) (ph : Phase) (s : State) : Moves sc s (countSend n ph s) :=
  modKeys_plain_moves n _ s (fun _ => KeyCtx.setSlot_prot ..) (fun _ => KeyCtx.setSlot_phase ..) fun k hk => by
    rw [KeyCtx.current, KeyCtx.setSlot_phase, KeyCtx.slot_setSlot]
    split
    · next hph => rw [Option.isSome_map, ← hph]; exact hk
    · exact hk

theorem sendEntitle_moves (n : Svc) (ph : Phase) (x : KeySlot) (s : State) : Moves sc s (sendEntitle n ph x s) := by
  unfold sendEntitle
  split
  · exact (deliver_moves _ s).trans
      ((modSvc_plain_moves n _ _).trans (countSend_moves n ph _))
  · exact .refl s

theorem accountSlot_moves (granted : Bool) (n : Svc) (s : State) : Moves sc s (accountSlot granted n s) := by
  refine Moves.trans (t := { s with rrPointer := n + 1 }) (quiet_moves rfl rfl)
    (modSvc_moves n _ _ fun v _ => .of_keys_eq (.of_eq rfl rfl rfl) (.of_eq rfl) (hdeficit := fun h => ?_))
  dsimp only
  split <;> omega

/-- The take of a head cell leaves the open picture of a service but for its first-cell state. -/
theorem takeHead_picture (v : Service) :
    v.takeHead.picture = v.picture.map fun p => { p with firstCell := p.firstCell.taken v.queue.read } := by
  cases hs : v.ingest.state <;> simp [Service.takeHead, Service.picture, hs]

theorem takeHead_edit {v : Service} (h : v.queue.read ≠ v.queue.write) : EntryEdit sc v v.takeHead := by
  refine .of_keys_eq (.of_take rfl rfl rfl h) ?_
  cases hp : v.picture with
  | none => exact .inl ⟨hp, by rw [takeHead_picture, hp]; rfl⟩
  | some p => exact .inr ⟨p, { p with firstCell := p.firstCell.taken v.queue.read }, hp, by rw [takeHead_picture, hp]; rfl, rfl, id, id⟩

theorem accountSlot_svc (granted : Bool) {n : Svc} {v : Service} (hv : s.svc n = some v) :
    (accountSlot granted n s).svc n = some { v with
      contPicture := v.contPicture + 1
      alloc := { v.alloc with deficit := if granted then v.alloc.deficit - 1 else v.alloc.deficit } } := by
  rw [accountSlot, State.svc_modSvc, if_pos rfl]
  exact congrArg (Option.map _) hv

theorem sendMarker_moves (granted : Bool) (n : Svc) (v : Service) (m : Marker) (s : State) :
    Moves sc s (sendMarker granted n v m s) :=
  (accountSlot_moves granted n s).trans ((modSvc_plain_moves n _ _).trans
    ((deliver_moves _ _).trans (drainTest_moves n _)))

theorem takeCell_moves {ecc : EccResult} {granted : Bool} {n : Svc} {v : Service} (hv : s.svc n = some v)
    (hne : v.queue.read ≠ v.queue.write) (h : takeCell ecc granted n v s = .next t) : Moves sc s t := by
  have htake : Moves sc s ((accountSlot granted n s).modSvc n Service.takeHead) := by
    refine (accountSlot_moves granted n s).trans (modSvc_moves n _ _ fun w hw => ?_)
    rw [accountSlot_svc granted hv] at hw
    cases hw
    exact takeHead_edit hne
  have hsend (out : OutCell) (t : State) :
      Moves sc t (drainTest n ((t.modSvc n fun v => v.countScrambled out).deliver out.bytes)) :=
    (modSvc_plain_moves n _ t).trans
      ((deliver_moves _ _).trans (drainTest_moves n _))
  unfold takeCell at h
  dsimp only at h
  split at h
  · cases h
    exact htake.trans ((Move.check _ _ _ _).moves.trans ((deliver_moves _ _).trans (drainTest_moves n _)))
  all_goals
    split at h
    · cases h
    · cases h
      refine htake.trans (Moves.trans ?_ (hsend _ _))
      split
      · exact (Move.check _ _ _ _).moves
      · exact .refl _

theorem ringEmpty_iff (v : Service) : v.ringEmpty = true ↔ v.queue.read = v.queue.write := by
  simp [Service.ringEmpty]

theorem serveSlot_moves {ecc : EccResult} {granted : Bool} {n : Svc} (h : serveSlot ecc granted n s = .next t) :
    Moves sc s t := by
  unfold serveSlot at h
  split at h
  · next v hv =>
    split at h
    · split at h
      · cases h; exact sendMarker_moves granted n v _ s
      · cases h; exact deliver_moves _ s
    · next hne => exact takeCell_moves hv (fun he => hne ((ringEmpty_iff v).mpr he)) h
  · cases h; exact deliver_moves _ s

theorem fillSlot_moves {ecc : EccResult} (h : fillSlot ecc s = .next t) : Moves sc s t := by
  unfold fillSlot at h
  split at h
  · exact serveSlot_moves h
  · split at h
    · exact serveSlot_moves h
    · cases h; exact deliver_moves _ s

theorem payloadSlot_moves {ecc : EccResult} (h : payloadSlot ecc s = .next t) : Moves sc s t := by
  unfold payloadSlot at h
  split at h
  · next n rest hdue =>
    have hleft : Moves sc s { s with dueList := rest } :=
      (Move.due rest fun hn => (List.nodup_cons.mp (hdue ▸ hn)).2).moves
    dsimp only at h
    split at h
    · cases h; exact hleft.trans (sendEntitle_moves n _ _ _)
    · exact hleft.trans (fillSlot_moves h)
  · exact fillSlot_moves h

theorem pullSlot_moves {ecc : EccResult} (h : pullSlot ecc s = .next t) : Moves sc s t := by
  refine (Move.slotPulled s).moves.trans ?_
  unfold pullSlot at h
  dsimp only at h
  split at h
  · cases h; exact deliver_moves _ _
  · exact payloadSlot_moves h

/-! ## Building cells -/

theorem picture_eq_some {n : Svc} {p : OpenPicture} (h : s.picture n = some p) :
    ∃ v, s.svc n = some v ∧ v.ingest.state = .inPicture p := by
  unfold State.picture at h
  split at h
  · next v hv => exact ⟨v, hv, state_of_picture h⟩
  · cases h

theorem picture_of_svc {n : Svc} {v : Service} (h : s.svc n = some v) : s.picture n = v.picture := by
  rw [State.picture, h]

/-- The open picture of a service after a change of it. -/
theorem picture_modPicture (n : Svc) (f : OpenPicture → OpenPicture) (s : State) :
    (s.modPicture n f).picture n = (s.picture n).map f := by
  cases hv : s.svc n with
  | none => simp [State.modPicture, State.modSvc, State.picture, hv]
  | some v =>
    rw [State.modPicture, State.modSvc_some _ n _ v hv, State.picture, State.svc_putSvc, if_pos rfl, State.picture, hv]
    cases hs : v.ingest.state <;> simp [Service.picture, hs]

theorem modPicture_moves (n : Svc) (f : OpenPicture → OpenPicture) (s : State)
    (h : ∀ p, s.picture n = some p → PictureEdit p (f p)) : Moves sc s (s.modPicture n f) := by
  refine modSvc_moves n _ s fun v hv => ?_
  split
  · next p hp =>
    have hopen := picture_of_state hp
    exact .of_keys_eq (.of_eq rfl rfl rfl) (.inr ⟨p, f p, hopen, rfl, h p ((picture_of_svc hv).trans hopen)⟩)
  · exact .refl sc v
  · exact .refl sc v

/-- An open picture changed in what no law speaks of. -/
theorem modPicture_plain_moves (n : Svc) (f : OpenPicture → OpenPicture) (s : State)
    (hbank : ∀ p, (f p).bank = p.bank := by exact fun _ => rfl)
    (hbounds : ∀ p, inBounds p → inBounds (f p) := by exact fun _ => id)
    (hsizes : ∀ p, sized p → sized (f p) := by exact fun _ => id) : Moves sc s (s.modPicture n f) :=
  modPicture_moves n f s fun p _ => ⟨hbank p, hbounds p, hsizes p⟩

theorem raiseFault_picture (n m : Svc) (code : FaultCode) (s : State) :
    (raiseFault n code s).picture m = s.picture m := by
  cases hv : s.svc n with
  | none => rw [raiseFault_none n code s hv]
  | some v =>
    rw [raiseFault_some n code s v hv, State.picture, State.svc_putSvc]
    by_cases hm : m = n
    · rw [if_pos hm, hm, State.picture, hv]; rfl
    · rw [if_neg hm]; rfl

theorem appendPictureCell_moves {n : Svc} {start : Bool} {valid : Nat} {bits : List Bool}
    (h : appendPictureCell n start valid bits s = some t) (hvalid : 1 ≤ valid)
    (hsize : s.cellSizeLaw → valid ≤ 736) : Moves sc s t := by
  unfold appendPictureCell at h
  split at h
  · split at h
    · next t' ht' =>
      have happend : Moves sc s t' := (Move.appended ht' rfl hvalid hsize).moves
      cases h
      split
      · exact happend.trans (modPicture_plain_moves n _ t')
      · exact happend
    · cases h
  · cases h

/-- An appended cell leaves the open picture of the service but for its first-cell state. -/
theorem appendPictureCell_picture {n : Svc} {start : Bool} {valid : Nat} {bits : List Bool} {p : OpenPicture}
    (h : appendPictureCell n start valid bits s = some t) (hp : s.picture n = some p) :
    ∃ f, t.picture n = some { p with firstCell := f } := by
  unfold appendPictureCell at h
  split at h
  · split at h
    · next v hv t' ht' =>
      have hkept : t'.picture n = some p := by
        obtain ⟨w, hw, -, rfl⟩ := appendCell_some n _ s t' ht'
        rw [State.picture, State.svc_putSvc, if_pos rfl, ← hp, State.picture, hw]
        rfl
      cases h
      split
      · exact ⟨_, by rw [picture_modPicture, hkept]; rfl⟩
      · exact ⟨p.firstCell, hkept⟩
    · cases h
  · cases h

theorem writeBits_moves (n : Svc) (bits : List Bool) (s : State)
    (h : ∀ p, s.picture n = some p → sized p → bits.length ≤ 736) : Moves sc s (writeBits n bits s) := by
  unfold writeBits
  split
  · next p hp =>
    dsimp only
    split
    · next hlen =>
      refine modPicture_moves n _ s fun q hq => ?_
      exact ⟨rfl, id, fun hsized => ⟨hlen, hsized.2⟩⟩
    · next hlen =>
      split
      · next t ht =>
        refine (appendPictureCell_moves ht (by decide) fun _ => le_rfl).trans (modPicture_moves n _ t fun q hq => ?_)
        obtain ⟨f, hf⟩ := appendPictureCell_picture ht hp
        obtain rfl := Option.some.inj (hf.symm.trans hq)
        refine ⟨rfl, id, fun hsized => ⟨?_, hsized.2⟩⟩
        have hbits := h p hp hsized
        have hcell : p.cell.bits.length < 736 := hsized.1
        simp only [List.length_drop, List.length_append, Config.payloadBits]
        omega
      · exact overflow_moves n s
  · exact .refl s

/-! ## Stripes and blocks -/

theorem length_stripeSteps (table : WeightTable) (qs : Nat) : (stripeSteps table qs).length = 16 := by
  simp [stripeSteps]

theorem beginStripe_moves (n : Svc) (qs : Nat) (emergency : Bool) (s : State)
    (h : ∀ p, s.picture n = some p → inBounds p → p.qmin ≤ qs ∧ qs ≤ p.qmax) :
    Moves sc s (beginStripe n qs emergency s) := by
  refine Moves.trans (modPicture_moves n _ s fun p hp => ?_) (writeBits_moves n _ _ fun _ _ _ => ?_)
  · exact ⟨rfl, fun hb => ⟨hb.1, h p hp hb⟩, fun hs => ⟨hs.1, length_stripeSteps _ _⟩⟩
  · rw [stripeHeader, length_bitsOf]
    decide

theorem clampNat_mem {lo hi : Nat} (x : Nat) (h : lo ≤ hi) : lo ≤ clampNat lo hi x ∧ clampNat lo hi x ≤ hi := by
  unfold clampNat
  split_ifs <;> omega

theorem stripeDecision_mem {p : OpenPicture} (free j : Nat) (h : inBounds p) :
    p.qmin ≤ (stripeDecision p free j).1 ∧ (stripeDecision p free j).1 ≤ p.qmax := by
  unfold stripeDecision
  split_ifs
  · exact ⟨h.1, le_rfl⟩
  · exact ⟨h.1, le_rfl⟩
  · exact clampNat_mem _ h.1

theorem decideStripe_moves (n : Svc) (s : State) : Moves sc s (decideStripe n s) := by
  unfold decideStripe
  split
  · next v hv =>
    split
    · next p hp =>
      refine beginStripe_moves n _ _ s fun q hq hb => ?_
      rw [picture_of_svc hv, hp] at hq
      cases hq
      exact stripeDecision_mem _ _ hb
    · exact .refl s
  · exact .refl s

theorem natAbs_quantizeBlock_le (steps : List Nat) (rnd : Nat) (b : Block) :
    ∀ l ∈ quantizeBlock steps rnd b, l.natAbs ≤ 255 := by
  intro l hl
  rw [quantizeBlock] at hl
  obtain ⟨i, hi, rfl⟩ := List.getElem_of_mem hl
  rw [List.getElem_zipWith]
  exact natAbs_levelOf_le _ _ _

/-- The code of a block quantized under sixteen steps fits a cell (R52). -/
theorem length_blockCode_quantizeBlock {steps : List Nat} (hlen : steps.length = 16) (rnd : Nat) (b : Block) :
    (blockCode (quantizeBlock steps rnd b)).length ≤ 282 := by
  refine length_blockCode_le ?_ (natAbs_quantizeBlock_le steps rnd b)
  rw [quantizeBlock, List.length_zipWith, hlen]
  exact Nat.min_le_left _ _

theorem codeBlock_moves (n : Svc) (b : Block) (s : State) : Moves sc s (codeBlock n b s) := by
  unfold codeBlock
  split
  · next p _ =>
    have hstripe : Moves sc s (if p.beginsStripe p.blocksCoded then decideStripe n s else s) := by
      split
      · exact decideStripe_moves n s
      · exact .refl s
    dsimp only
    split
    · next p1 hp1 =>
      refine hstripe.trans (Moves.trans (modPicture_plain_moves n _ _)
        (Moves.trans (writeBits_moves n _ _ fun q hq hsized => ?_) (modPicture_plain_moves n _ _)))
      rw [picture_modPicture, hp1] at hq
      cases hq
      exact (length_blockCode_quantizeBlock hsized.2 _ b).trans (by decide)
    · exact hstripe
  · exact .refl s

theorem codeMissing_moves (n : Svc) (s : State) : Moves sc s (codeMissing n s) := by
  unfold codeMissing
  split
  · next p hp =>
    have hstripe : Moves sc s (if p.beginsStripe p.blocksCoded then beginStripe n p.qs p.emergency s else s) := by
      split
      · refine beginStripe_moves n _ _ s fun q hq hb => ?_
        obtain rfl := Option.some.inj (hp.symm.trans hq)
        exact hb.2
      · exact .refl s
    dsimp only
    split
    · exact hstripe.trans (Moves.trans (writeBits_moves n _ _ fun _ _ _ => (by decide))
        (modPicture_plain_moves n _ _))
    · exact hstripe
  · exact .refl s

/-! ## Opening a picture -/

theorem ringFull_iff (v : Service) : v.ringFull = true ↔ v.ringLength = 2 ^ v.cfg.k - 1 := by
  simp [Service.ringFull, regionSize_eq]

/-- The marker test where a marker is pending and the ring has room: its cell is appended (R89). -/
theorem markerTest_of_room {n : Svc} {v : Service} {m : Marker} (hv : s.svc n = some v) (hm : v.queue.marker = some m)
    (hroom : ¬ v.ringFull = true) : markerTest n s = s.gapAppended n v m := by
  have happend : appendCell n (m.gapCell n) s = some (({ s with pool := s.pool.write v.queue.write (m.gapCell n) } :
      State).putSvc n (some { v with queue := { v.queue with write := v.cfg.advance v.queue.write } })) := by
    rw [appendCell, hv]
    dsimp only
    rw [if_neg hroom]
    exact congrArg some
      (State.modSvc_some ({ s with pool := s.pool.write v.queue.write (m.gapCell n) } : State) n _ v hv)
  rw [markerTest, hv]
  dsimp only
  rw [hm]
  dsimp only
  rw [happend]
  dsimp only
  rw [State.modQueue, State.modSvc_some _ n _ _ (by rw [State.svc_putSvc, if_pos rfl]), putSvc_putSvc]
  rfl

/-- The marker test where the ring is full, or no marker is pending. -/
theorem markerTest_of_not_room {n : Svc} {v : Service} (hv : s.svc n = some v)
    (h : v.queue.marker = none ∨ v.ringFull = true) : markerTest n s = s := by
  rw [markerTest, hv]
  dsimp only
  split
  · next m hm =>
    have hfull : v.ringFull = true := h.resolve_left (hm ▸ Option.some_ne_none m)
    rw [appendCell, hv]
    dsimp only
    rw [if_pos hfull]
  · rfl

/-- The marker test touches the queue descriptor of the service and the pool. -/
theorem markerTest_svc {n : Svc} {v : Service} (hv : s.svc n = some v) :
    ∃ q, (markerTest n s).svc n = some { v with queue := q } := by
  by_cases hroom : v.queue.marker = none ∨ v.ringFull = true
  · exact ⟨v.queue, by rw [markerTest_of_not_room hv hroom, hv]⟩
  · obtain ⟨hm, hfull⟩ := not_or.mp hroom
    obtain ⟨m, hm⟩ := Option.ne_none_iff_exists'.mp hm
    exact ⟨_, by rw [markerTest_of_room hv hm hfull, State.gapAppended, State.svc_putSvc, if_pos rfl]⟩

/-- The state with other weight banks. -/
def withQuant (q : Quantizer) (s : State) : State := { s with quant := q }

/-- The marker test neither reads nor writes the weight banks. -/
theorem markerTest_withQuant (n : Svc) (q : Quantizer) (s : State) :
    markerTest n (withQuant q s) = withQuant q (markerTest n s) := by
  cases hv : s.svc n with
  | none =>
    have hnone (t : State) (ht : t.svc n = none) : markerTest n t = t := by rw [markerTest, ht]
    rw [hnone s hv, hnone (withQuant q s) hv]
  | some v =>
    by_cases hroom : v.queue.marker = none ∨ v.ringFull = true
    · rw [markerTest_of_not_room hv hroom, markerTest_of_not_room (s := withQuant q s) hv hroom]
    · obtain ⟨hm, hfull⟩ := not_or.mp hroom
      obtain ⟨m, hm⟩ := Option.ne_none_iff_exists'.mp hm
      rw [markerTest_of_room hv hm hfull, markerTest_of_room (s := withQuant q s) hv hm hfull]
      rfl

@[simp] theorem markerTest_quant (n : Svc) (s : State) : (markerTest n s).quant = s.quant := by
  have hsame := markerTest_withQuant n s.quant s
  rw [show withQuant s.quant s = s from rfl] at hsame
  rw [hsame]
  rfl

theorem initialQs_mem {stats : Option Stats} {qinit qmin qmax target : Nat} (h : qmin ≤ qmax) :
    qmin ≤ initialQs stats qinit qmin qmax target ∧ initialQs stats qinit qmin qmax target ≤ qmax := by
  unfold initialQs
  split <;> exact clampNat_mem _ h

theorem newPicture_inBounds (v : Service) (number : Half) (kind : PictureKind) (stripes bps : Nat)
    (h : v.cfg.qmin ≤ v.cfg.qmax) : inBounds (newPicture s v number kind stripes bps) := by
  exact ⟨h, initialQs_mem h⟩

theorem newPicture_sized (v : Service) (number : Half) (kind : PictureKind) (stripes bps : Nat) :
    sized (newPicture s v number kind stripes bps) :=
  ⟨Nat.zero_lt_succ 735, length_stripeSteps _ _⟩

theorem length_headers (number : Half) (kind : PictureKind) (bank : Bank) (stripes bps qs : Nat) :
    (pictureHeader number kind bank stripes bps ++ stripeHeader qs).length = 38 := by
  simp [pictureHeader, stripeHeader]

/-- A picture opened: the complexity handed over, the marker test, then the picture with its bank user. -/
theorem openPicture_moves {n : Svc} {v : Service} (hv : s.svc n = some v) (hclosed : v.picture = none)
    (hact : v.activity ≠ .defined) (number : Half) (kind : PictureKind) (stripes bps complexity : Nat) :
    Moves sc s (openPicture n number kind stripes bps complexity s) := by
  have hrun (t : State) : Moves sc t (t.modSvc n fun v =>
      if v.activity = .stalled then { v with activity := .running } else v) := by
    refine modSvc_moves n _ t fun w _ => ?_
    split
    · next hst => exact .of_keys_eq (.of_eq rfl rfl rfl) (.of_eq rfl) (hact := by simp [hst])
    · exact .refl sc w
  set handed : Service → Service := fun v => { v with alloc := { v.alloc with complexity := max 1 complexity } }
  have htested : Moves sc s (markerTest n (s.modSvc n handed)) :=
    (modSvc_plain_moves n handed s).trans (markerTest_moves n _)
  obtain ⟨q, hq⟩ := markerTest_svc (s := s.modSvc n handed) (n := n) (v := handed v)
    (by rw [State.svc_modSvc, if_pos rfl, hv]; rfl)
  set pic := newPicture s v number kind stripes bps
  have hopened : Moves sc s ((markerTest n ((withQuant (s.quant.addUser s.quant.active) s).modSvc n handed)).modSvc n
      fun v => v.setIngest (.inPicture pic)) := by
    have hswap : (withQuant (s.quant.addUser s.quant.active) s).modSvc n handed
        = withQuant (s.quant.addUser s.quant.active) (s.modSvc n handed) := by
      rw [State.modSvc_some s n handed v hv, State.modSvc_some (withQuant (s.quant.addUser s.quant.active) s) n handed v hv]
      rfl
    rw [hswap, markerTest_withQuant, State.modSvc_some (withQuant (s.quant.addUser s.quant.active) (markerTest n (s.modSvc n handed))) n _
      { handed v with queue := q } hq]
    refine htested.trans ?_
    have hopen := Move.opened (sc := sc) (p := pic) hq hclosed hact (newPicture_inBounds v number kind stripes bps)
      (newPicture_sized v number kind stripes bps)
    rw [markerTest_quant, State.modSvc_quant] at hopen
    exact hopen.moves
  unfold openPicture
  rw [hv]
  refine hopened.trans (Moves.trans ?_ (hrun _))
  split
  · exact overflow_moves n _
  · exact writeBits_moves n _ _ fun _ _ _ => (length_headers ..).trans_le (by decide)

/-! ## Records -/

theorem refuseRecord_moves (n : Svc) (code : FaultCode) (s : State) : Moves sc s (refuseRecord n code s) :=
  (Move.fault n code s).moves.trans (finishRecord_moves _)

/-- An ingest state without a picture left for another. -/
theorem setIngest_moves {n : Svc} {v : Service} (hv : s.svc n = some v) (hclosed : v.picture = none) (st : IngestState)
    (hst : (v.setIngest st).picture = none) : Moves sc s (s.modSvc n fun v => v.setIngest st) := by
  refine modSvc_moves n _ s fun w hw => ?_
  obtain rfl := Option.some.inj (hv.symm.trans hw)
  exact .of_keys_eq (.of_eq rfl rfl rfl) (.inl ⟨hclosed, hst⟩)

theorem refuseFormat_moves {n : Svc} {v : Service} (hv : s.svc n = some v) (hclosed : v.picture = none) :
    Moves sc s (refuseFormat n s) :=
  (setIngest_moves hv hclosed .discarding rfl).trans (refuseRecord_moves n _ _)

theorem forceClose_moves (n : Svc) (s : State) : Moves sc s (forceClose n s) :=
  (Move.fault n _ s).moves.trans (setPhase_moves _ _)

theorem picture_eq_none_of_idle {v : Service} (h : v.ingest.state = .idle) : v.picture = none := by
  rw [Service.picture, h]

theorem picture_eq_none_of_discarding {v : Service} (h : v.ingest.state = .discarding) : v.picture = none := by
  rw [Service.picture, h]

theorem judgeRecord_moves (r : Record) (draining : Bool) (s : State) : Moves sc s (judgeRecord r draining s) := by
  unfold judgeRecord
  split
  · next v hv =>
    split
    · unfold judgeHead
      split
      · exact refuseRecord_moves _ _ s
      · split
        · exact forceClose_moves _ s
        all_goals
          next hst =>
          split
          · exact setPhase_moves _ s
          · exact refuseFormat_moves hv (by rw [Service.picture, hst])
    · unfold judgeBlocks
      split
      · exact setPhase_moves _ s
      · exact finishRecord_moves s
      · exact refuseRecord_moves _ _ s
    · unfold judgeTail
      split
      · split
        · exact setPhase_moves _ s
        · exact refuseRecord_moves _ _ s
      · next hst =>
        exact (setIngest_moves hv (picture_eq_none_of_discarding hst) .idle rfl).trans (finishRecord_moves _)
      · exact refuseRecord_moves _ _ s
  · exact finishRecord_moves s

theorem startRecord_moves (r : Record) (draining : Bool) (s : State) : Moves sc s (startRecord r draining s) := by
  unfold startRecord
  split_ifs
  · exact finishRecord_moves s
  · exact setPhase_moves _ s
  · exact (markerTest_moves _ s).trans (judgeRecord_moves r draining _)

theorem takeRecord_moves (kind : Record → Bool) (s : State) : Moves sc s (takeRecord kind s) := by
  unfold takeRecord
  split
  · next hfree hqueue =>
    split
    · exact (Move.taken _ hfree hqueue).moves.trans (startRecord_moves _ _ _)
    · exact .refl s
  · exact .refl s

theorem openingStage_moves (r : Record) (s : State) : Moves sc s (openingStage r s) := by
  unfold openingStage
  split
  · next v hv =>
    split
    · exact finishRecord_moves s
    · next hpart =>
      split
      · exact setPhase_moves _ s
      · split
        · exact forceClose_moves _ s
        all_goals
          next hst =>
          have hclosed : v.picture = none := by rw [Service.picture, hst]
          split
          · exact (openPicture_moves hv hclosed (activity_of_participant (by simpa using hpart)) _ _ _ _ _).trans
              (finishRecord_moves _)
          · exact refuseFormat_moves hv hclosed
  · exact finishRecord_moves s

theorem codingStage_moves (n : Svc) (rest : List Block) (excess : Bool) (s : State) :
    Moves sc s (codingStage n rest excess s) := by
  unfold codingStage
  split
  · next p b more _ =>
    have hwork : Moves sc s
        (if p.blocksCoded < p.totalBlocks then codeBlock n b s
         else if excess then s else raiseFault n .pictureExcess s) := by
      split_ifs
      · exact codeBlock_moves n b s
      · exact .refl s
      · exact (Move.fault n _ s).moves
    dsimp only
    split
    · exact hwork.trans (finishRecord_moves _)
    · exact hwork.trans (setPhase_moves _ _)
  · exact finishRecord_moves s
  · exact finishRecord_moves s

theorem afterAbandonedClose_moves (n : Svc) (s : State) : Moves sc s (afterAbandonedClose n s) := by
  unfold afterAbandonedClose
  split
  · split
    · exact finishRecord_moves s
    · exact setPhase_moves _ s
    · exact finishRecord_moves s
  · exact .refl s

theorem afterNormalClose_moves (s : State) : Moves sc s (afterNormalClose s) := by
  unfold afterNormalClose
  split
  · split
    · exact setPhase_moves _ s
    · exact finishRecord_moves s
    · exact finishRecord_moves s
  · exact .refl s

theorem normalClose_moves {n : Svc} {p q : OpenPicture} (hq : s.picture n = some q) (hbank : q.bank = p.bank) :
    Moves sc s (normalClose n p s) := by
  set s1 := s.modSvc n fun v => { v with stats := some p.closeStats } with hs1
  have hstats : Moves sc s s1 := modSvc_plain_moves n _ s
  have hq1 : s1.picture n = some q := by
    obtain ⟨v, hv, hst⟩ := picture_eq_some hq
    rw [hs1, State.modSvc_some s n _ v hv, State.picture, State.svc_putSvc, if_pos rfl]
    exact picture_of_state hst
  set s2 := if p.saturated then raiseFault n .levelSaturated s1 else s1 with hs2
  have hfault : Moves sc s1 s2 := by
    rw [hs2]
    split
    · exact (Move.fault n _ s1).moves
    · exact .refl s1
  have hq2 : s2.picture n = some q := by
    rw [hs2]
    split
    · rw [raiseFault_picture, hq1]
    · exact hq1
  obtain ⟨v, hv, hst⟩ := picture_eq_some hq2
  have hclose := Move.closed (sc := sc) (st := .idle) hv (picture_of_state hst) rfl
  rw [hbank, ← State.modSvc_some ({ s2 with quant := s2.quant.dropUser p.bank } : State) n (fun v => v.setIngest .idle) v
    hv] at hclose
  exact hstats.trans (hfault.trans (hclose.moves.trans (drainTest_moves n _)))

theorem closingStage_moves (n : Svc) (short : Bool) (s : State) : Moves sc s (closingStage n short s) := by
  unfold closingStage
  split
  · next p hp =>
    split
    · dsimp only
      split
      · exact (codeMissing_moves n s).trans (setPhase_moves _ _)
      · exact (codeMissing_moves n s).trans (afterAbandonedClose_moves n _)
    · set s1 := if short then raiseFault n .pictureShort s else s with hs1
      have hfault : Moves sc s s1 := by
        rw [hs1]
        split
        · exact (Move.fault n _ s).moves
        · exact .refl s
      have hp1 : s1.picture n = some p := by
        rw [hs1]
        split
        · rw [raiseFault_picture, hp]
        · exact hp
      dsimp only
      split
      · exact hfault.trans ((normalClose_moves hp1 rfl).trans (afterNormalClose_moves _))
      · next hbits =>
        split
        · next s2 hs2 =>
          obtain ⟨f, hf⟩ := appendPictureCell_picture hs2 hp1
          have hvalid : 1 ≤ p.cell.bits.length := by
            rw [List.isEmpty_iff] at hbits
            exact List.length_pos_iff.mpr hbits
          have hsize (hlaw : s1.cellSizeLaw) : p.cell.bits.length ≤ 736 := (hlaw.1 n p hp1).1.le
          exact hfault.trans ((appendPictureCell_moves hs2 hvalid hsize).trans
            ((normalClose_moves hf rfl).trans (afterNormalClose_moves _)))
        · exact hfault.trans ((overflow_moves n s1).trans (afterAbandonedClose_moves n _))
  · exact afterAbandonedClose_moves n s

theorem packerStage_moves (s : State) : Moves sc s (packerStage s) := by
  unfold packerStage
  split
  · split
    · exact .refl s
    · exact openingStage_moves _ s
    · exact codingStage_moves _ _ _ s
    · exact closingStage_moves _ _ s
    · exact finishRecord_moves s
  · exact .refl s

theorem runStages_moves (k : Nat) (s : State) : Moves sc s (runStages k s) := by
  induction k generalizing s with
  | zero => exact .refl s
  | succ k ih => exact (packerStage_moves s).trans (ih _)

theorem takeAndWork_moves (kind : Record → Bool) (stages : Nat) (s : State) :
    Moves sc s (takeAndWork kind stages s) := by
  unfold takeAndWork
  split
  · exact (takeRecord_moves kind s).trans (runStages_moves stages _)
  · exact .refl s

theorem resumeHeld_moves (s : State) : Moves sc s (resumeHeld s) := by
  unfold resumeHeld
  split
  · split
    · exact startRecord_moves _ _ s
    all_goals exact .refl s
  · exact .refl s

theorem resumeAndWork_moves (stages : Nat) (s : State) : Moves sc s (resumeAndWork stages s) := by
  unfold resumeAndWork
  split
  · split
    · exact (resumeHeld_moves s).trans (runStages_moves stages _)
    all_goals exact .refl s
  · exact .refl s

theorem arriveMessage_moves (burst : List Byte) (s : State) : Moves sc s (arriveMessage burst s) := by
  have hreturn : Moves sc s (returnArrival s) := quiet_moves rfl rfl
  unfold arriveMessage
  split
  · exact (Move.check _ _ _ _).moves
  · next hcredit =>
    split
    · exact hreturn.trans (Move.check _ _ _ _).moves
    · next r _ =>
      split
      · exact (Move.admitted r (Nat.pos_of_ne_zero hcredit)).moves.trans
          (modSvc_plain_moves _ _ _)
      · exact hreturn.trans (Move.check _ _ _ _).moves

/-! ## Commands -/

/-- A command that may let a phase change: a frame start, or a request that sets one, as a row or in a frame. -/
def mayTurn (s : State) : Instr → Prop
  | .frameStart _ _ | .svcDefine _ _ | .svcModify _ _ _ _ => True
  | .portFrameEnd p received => ∃ r, frameRequest p ((s.port p).rx ++ received) = .request r ∧ setsPhase r
  | _ => False

/-- A command that may write a weight bank: WEIGHTS_LOAD, as a row or in a frame. -/
def mayLoad (s : State) : Instr → Prop
  | .weightsLoad _ _ => True
  | .portFrameEnd p received => ∃ r, frameRequest p ((s.port p).rx ++ received) = .request r ∧ writesBank r
  | _ => False

/-- A command that may note work of a frame start. -/
def mayNote : Instr → Prop
  | .frameStart _ _ => True
  | _ => False

theorem operate_next {f : State → State} {o : Host.Outcome State Fault Refusal}
    (h : o = .next (operate f s)) (hrst : s.rstAsserted = false) (hnext : o = .next t) : t = f (settle s) := by
  rw [h, operate, hrst] at hnext
  exact (Host.Outcome.next.inj hnext).symm

/-- Out of reset every command that is neither the line's nor an expiry acts, by moves, on the state with the outstanding
work of the last frame start done. -/
theorem exec_moves (c : Instr) (hline : isLineCommand c = false) (hexp : expiryOf c = none)
    (hrst : s.rstAsserted = false) (hr : mayTurn (settle s) c → sc.rekeys) (hl : mayLoad (settle s) c → sc.loads)
    (hn : mayNote c → sc.notes) (h : exec c s = .next t) : Moves sc (settle s) t := by
  have hrequest (p : PortId) (r : Request) (hturn : setsPhase r → sc.rekeys) (hload : writesBank r → sc.loads)
      (hnext : exec c s = .next (operate (takeRequest p r) s)) : Moves sc (settle s) t :=
    operate_next hnext hrst h ▸ takeRequest_moves p r _ hturn hload
  cases c with
  | powerOn | resetLine | resetLineRelease => cases hline
  | silenceExpiry | periodExpiry | windowEnd | entitlementCountdownExpiry | deferralLimit => cases hexp
  | portFrameEnd p received =>
    rw [operate_next (f := endFrame p received) rfl hrst h]
    exact endFrame_moves p received _ (fun r hf hs => hr ⟨r, hf, hs⟩) fun r hf hs => hl ⟨r, hf, hs⟩
  | svcDefine service cfg => exact hrequest .control (.svcDefine service cfg) (fun _ => hr trivial) False.elim rfl
  | svcModify service expected mask cfg =>
    exact hrequest .control (.svcModify service expected mask cfg) (fun _ => hr trivial) False.elim rfl
  | weightsLoad intra predicted =>
    exact hrequest .control (.weightsLoad intra predicted) False.elim (fun _ => hl trivial) rfl
  | svcStart service => exact hrequest .control (.svcStart service) False.elim False.elim rfl
  | svcStop service => exact hrequest .control (.svcStop service 0) False.elim False.elim rfl
  | svcStopFlush service => exact hrequest .control (.svcStop service 1) False.elim False.elim rfl
  | svcRelease service => exact hrequest .control (.svcRelease service) False.elim False.elim rfl
  | svcQuery service => exact hrequest .control (.svcQuery service) False.elim False.elim rfl
  | weightsQuery => exact hrequest .control .weightsQuery False.elim False.elim rfl
  | muxSet f l a => exact hrequest .control (.muxSet f l a) False.elim False.elim rfl
  | muxQuery => exact hrequest .control .muxQuery False.elim False.elim rfl
  | status => exact hrequest .control .status False.elim False.elim rfl
  | reset => exact hrequest .control .reset False.elim False.elim rfl
  | faultsRead service => exact hrequest .control (.faultsRead service) False.elim False.elim rfl
  | faultsAck service => exact hrequest .control (.faultsAck service) False.elim False.elim rfl
  | checkRead => exact hrequest .control .checkRead False.elim False.elim rfl
  | checkClear => exact hrequest .control .checkClear False.elim False.elim rfl
  | checkMode mode => exact hrequest .control (.checkMode mode) False.elim False.elim rfl
  | keyLoad n ph expected key payload =>
    exact hrequest .key (.keyLoad n ph expected key payload) False.elim False.elim rfl
  | keyClear n ph expected => exact hrequest .key (.keyClear n ph expected) False.elim False.elim rfl
  | keyPurge => exact hrequest .key .keyPurge False.elim False.elim rfl
  | keyStatus n selector => exact hrequest .key (.keyStatus n selector) False.elim False.elim rfl
  | requestsRead => exact hrequest .key .requestsRead False.elim False.elim rfl
  | linkMessageArrival burst => exact operate_next rfl hrst h ▸ arriveMessage_moves burst _
  | picHead stages => exact operate_next rfl hrst h ▸ takeAndWork_moves _ stages _
  | blocks stages => exact operate_next rfl hrst h ▸ takeAndWork_moves _ stages _
  | picTail stages => exact operate_next rfl hrst h ▸ takeAndWork_moves _ stages _
  | withdraw n => exact operate_next rfl hrst h ▸ withdrawStep_moves n _
  | heldRecordResume stages => exact operate_next rfl hrst h ▸ resumeAndWork_moves stages _
  | packerRecordWork stages => exact operate_next rfl hrst h ▸ runStages_moves stages _
  | frameStart early order =>
    rw [operate_next (f := fun t => if t.slotIndex = 0 then startFrame early order t else t) rfl hrst h]
    split
    · exact startFrame_moves early order _ (hr trivial) (hn trivial)
    · exact .refl _
  | slotPull ecc =>
    change execSlotPull ecc s = .next t at h
    rw [execSlotPull, hrst] at h
    simp only [Bool.false_eq_true, if_false] at h
    split at h
    · cases h
      exact .refl _
    · exact pullSlot_moves h

end Sys2Proof.Proofs
end

section
/-! PROOF. One step is a chain of moves, and what moves do to entries: the way from a law kept by every move to a law kept
by every step. -/

namespace Sys2Proof.Proofs

open Sys2Proof.Machine

variable {sc : Scope} {s t u : State}

/-! ## The whole part (O1 to O4) -/

/-- Settles O1. -/
theorem stepTakesFrontCommand : Obligations.StepTakesFrontCommand :=
  fun _ _ _ => ⟨rfl, rfl⟩

/-- Settles O2: the fields of the power-on state, one by one. -/
theorem resetValues : Obligations.ResetValues := by
  refine ⟨fun n => ?svc, rfl, rfl, rfl, rfl, rfl, rfl, rfl, rfl, rfl, rfl, rfl, rfl, rfl, rfl, rfl, rfl, rfl, rfl, rfl, rfl,
    rfl, rfl, rfl, fun p => ?port, rfl⟩
  case svc => simp [State.svc, State.reset]
  case port => cases p <;> exact ⟨rfl, rfl, rfl⟩

/-- Settles O3. -/
theorem powerAndResetLine : Obligations.PowerAndResetLine := by
  intro s lineHeld
  refine ⟨rfl, fun hrst => ?line, rfl⟩
  case line =>
    change execResetLine s = _
    rw [execResetLine, hrst]
    rfl

theorem operate_of_asserted (f : State → State) (h : s.rstAsserted = true) : operate f s = s := by
  rw [operate, if_pos h]

/-- While the reset line is asserted, only the supply and the line itself act. -/
theorem exec_of_asserted (c : Instr) (h : s.rstAsserted = true) (hline : isLineCommand c = false) :
    exec c s = .next s := by
  have hoperate (f : State → State) : (.next (operate f s) : Host.Outcome State Fault Refusal) = .next s :=
    congrArg _ (operate_of_asserted f h)
  have hexpire (w : FrameWork) : (.next (expire w s) : Host.Outcome State Fault Refusal) = .next s := by
    rw [expire, if_pos h]
  cases c with
  | powerOn | resetLine | resetLineRelease => cases hline
  | silenceExpiry | periodExpiry | windowEnd | entitlementCountdownExpiry | deferralLimit => exact hexpire _
  | slotPull ecc =>
    change execSlotPull ecc s = _
    rw [execSlotPull, if_pos h]
  | _ => exact hoperate _

/-- The Packer's work at another stage. -/
theorem setPhase_eq (ph : WorkPhase) (s : State) :
    setPhase ph s = { s with packer := s.packer.map fun w => { w with phase := ph } } := by
  unfold setPhase
  cases hp : s.packer with
  | none => simp only [Option.map_none]; rw [← hp]
  | some w => rfl

/-- The end of a close touches the Packer's work alone. -/
theorem breakClose_eq (n : Svc) (s : State) : breakClose n s = { s with packer := (breakClose n s).packer } := by
  have hphase (ph : WorkPhase) : setPhase ph s = { s with packer := (setPhase ph s).packer } := by rw [setPhase_eq]
  unfold breakClose
  split
  · exact hphase _
  · split
    · exact hphase _
    · rfl

/-- No expiry and no period start leaves work outstanding or asserts the line. -/
theorem takeWork_rest (w : FrameWork) (s : State) :
    (takeWork w s).frameDue = s.frameDue ∧ (takeWork w s).rstAsserted = s.rstAsserted := by
  have hkey {n : Svc} {t : State} (h : s.keyWork n t) : t.frameDue = s.frameDue ∧ t.rstAsserted = s.rstAsserted := by
    rw [h.2]
    exact ⟨rfl, rfl⟩
  cases w with
  | period n => exact hkey (periodExpiry_keyWork n s)
  | window n => exact hkey (windowExpiry_keyWork n s)
  | deferral n => exact hkey (deferralExpiry_keyWork n s)
  | countdown n =>
    simp only [takeWork, countdownExpiry, submitEntitlement]
    split <;> simp
  | allocate =>
    have hfold (l : List (Svc × Service)) (f : Svc × Service → Service) (t : State) :
        (l.foldl (fun t x => t.putSvc x.1 (some (f x))) t).frameDue = t.frameDue ∧
          (l.foldl (fun t x => t.putSvc x.1 (some (f x))) t).rstAsserted = t.rstAsserted := by
      induction l generalizing t with
      | nil => exact ⟨rfl, rfl⟩
      | cons x l ih => exact ih _
    exact hfold _ _ s
  | silence n =>
    have habandon := (abandonPicture_cellWork n s).2
    have hbreak (t : State) := breakClose_eq n t
    have hfault (t : State) := (raiseFault_cellWork n .inputLost t).2
    simp only [takeWork, silenceExpiry, State.modSvc_frameDue, State.modSvc_rstAsserted]
    rw [hfault]
    split
    · rw [hbreak, habandon]
      exact ⟨rfl, rfl⟩
    · exact ⟨rfl, rfl⟩

theorem settle_rest (s : State) : (settle s).frameDue = [] ∧ (settle s).rstAsserted = s.rstAsserted := by
  have hfold (l : List FrameWork) (t : State) :
      (l.foldl (fun t w => takeWork w t) t).frameDue = t.frameDue ∧
        (l.foldl (fun t w => takeWork w t) t).rstAsserted = t.rstAsserted := by
    induction l generalizing t with
    | nil => exact ⟨rfl, rfl⟩
    | cons w l ih =>
      obtain ⟨hdue, hrst⟩ := takeWork_rest w t
      exact ⟨(ih _).1.trans hdue, (ih _).2.trans hrst⟩
  exact hfold s.frameDue { s with frameDue := [] }

theorem settle_settle (s : State) : settle (settle s) = settle s := settle_of_nil _ (settle_rest s).1

/-- A command that is no expiry finds the outstanding work of the last frame start done. -/
theorem exec_settle (c : Instr) (hrst : s.rstAsserted = false) (hline : isLineCommand c = false)
    (hexp : expiryOf c = none) : exec c s = exec c (settle s) := by
  have hrst' : (settle s).rstAsserted = false := (settle_rest s).2.trans hrst
  have hoperate (f : State → State) :
      (.next (operate f s) : Host.Outcome State Fault Refusal) = .next (operate f (settle s)) := by
    rw [operate, operate, settle_settle, hrst, hrst']
    rfl
  cases c with
  | powerOn | resetLine | resetLineRelease => cases hline
  | silenceExpiry | periodExpiry | windowEnd | entitlementCountdownExpiry | deferralLimit => cases hexp
  | slotPull ecc =>
    change execSlotPull ecc s = execSlotPull ecc (settle s)
    rw [execSlotPull, execSlotPull, settle_settle, hrst, hrst']
    rfl
  | _ => exact hoperate _

/-- Settles O4, by the gate that every command passes. -/
theorem assertedLineAndOutstandingWork : Obligations.AssertedLineAndOutstandingWork :=
  ⟨fun c _ hrst hline => exec_of_asserted c hrst hline,
    fun c s hrst hline hexp => ⟨exec_settle c hrst hline hexp, (settle_rest s).1⟩⟩

/-! ## A step as a chain of moves -/

/-- Every move, and nothing asked of the protection states. -/
def anyMove : Scope := { strict := False, rekeys := True, loads := True, notes := True }

theorem expiry_moves {c : Instr} {w : FrameWork} (hexp : expiryOf c = some w) (hrst : s.rstAsserted = false)
    (hr : sc.rekeys) (hn : sc.notes) (hlaw : sc.strict → w ∈ s.frameDue → s.workLaw w) (h : exec c s = .next t) : Moves sc s t := by
  have htake (hnext : exec c s = .next (expire w s)) : Moves sc s t := by
    rw [hnext, expire, hrst] at h
    cases h
    exact takeOutstanding_moves w s hr hn hlaw
  cases c <;> cases hexp <;> exact htake rfl

/-- A command that is not the line's, out of reset, is a chain of moves. -/
theorem exec_anyMove {c : Instr} (hline : isLineCommand c = false) (hrst : s.rstAsserted = false)
    (h : exec c s = .next t) : Moves anyMove s t := by
  cases hexp : expiryOf c with
  | some w => exact expiry_moves hexp hrst trivial trivial False.elim h
  | none =>
    exact (settle_moves s trivial trivial id).trans
      (exec_moves c hline hexp hrst (fun _ => trivial) (fun _ => trivial) (fun _ => trivial) h)

/-- The commands of the supply and the line leave the power-on state, or move nothing that a law speaks of. -/
theorem exec_line {c : Instr} (hline : isLineCommand c = true) (h : exec c s = .next t) :
    Moves sc s t ∨ Moves sc State.reset t := by
  cases c <;> cases hline
  case powerOn lineHeld =>
    cases h
    exact .inr (quiet_moves rfl rfl)
  case resetLine =>
    change execResetLine s = .next t at h
    unfold execResetLine at h
    cases h
    split
    · exact .inl (.refl s)
    · exact .inr (quiet_moves rfl rfl)
  case resetLineRelease =>
    cases h
    exact .inl (quiet_moves rfl rfl)

theorem step_cases (h : step s = .next t) : t = s ∨ ∃ c rest, s.pending = c :: rest ∧ exec c { s with pending := rest } = .next t := by
  unfold step at h
  split at h
  · exact .inl (Host.Outcome.next.inj h).symm
  · next c rest hpending => exact .inr ⟨c, rest, hpending, h⟩

theorem Moves.keeps {P : State → Prop} (hP : ∀ s t, Move sc s t → P s → P t) (h : Moves sc s t) (hs : P s) : P t := by
  induction h with
  | refl => exact hs
  | tail _ hmove ih => exact hP _ _ hmove ih

/-- What the power-on state has and every move keeps, every step keeps. -/
theorem step_keeps {P : State → Prop} (hreset : P State.reset) (hP : ∀ s t, Move anyMove s t → P s → P t)
    (h : step s = .next t) (hs : P s) : P t := by
  rcases step_cases h with rfl | ⟨c, rest, -, hexec⟩
  · exact hs
  · have hrest : P { s with pending := rest } :=
      Moves.keeps hP (quiet_moves (s := s) rfl rfl) hs
    generalize ({ s with pending := rest } : State) = u at hexec hrest
    cases hline : isLineCommand c with
    | true =>
      rcases exec_line hline hexec with hmoves | hmoves
      · exact hmoves.keeps hP hrest
      · exact hmoves.keeps hP hreset
    | false =>
      cases hrst : u.rstAsserted with
      | true =>
        rw [exec_of_asserted c hrst hline] at hexec
        exact Host.Outcome.next.inj hexec ▸ hrest
      | false => exact (exec_anyMove hline hrst hexec).keeps hP hrest

/-! ## What a move does to an entry -/

/-- One entry before and after a move. -/
inductive Change (sc : Scope) : Option Service → Option Service → Prop where
  | same (o : Option Service) : Change sc o o
  | edit {v w : Service} (h : EntryEdit sc v w) : Change sc (some v) (some w)
  | opened {v : Service} {p : OpenPicture} (hact : v.activity ≠ .defined)
      (hbounds : v.cfg.qmin ≤ v.cfg.qmax → inBounds p) (hsizes : sized p) :
      Change sc (some v) (some (v.setIngest (.inPicture p)))
  | closed {v : Service} {st : IngestState} (hst : (v.setIngest st).picture = none) :
      Change sc (some v) (some (v.setIngest st))
  | fault (v : Service) (code : FaultCode) (frame : Word) :
      Change sc (some v) (some { v with faults := v.faults.raise code frame })
  | appended (v : Service) :
      Change sc (some v) (some { v with queue := { v.queue with write := v.cfg.advance v.queue.write } })
  | ended {v : Service} (hclosed : v.picture = none) : Change sc (some v) (some v.toDefined)
  | started {v : Service} {k : KeyCtx} (hact : v.activity = .defined)
      (hprot : sc.strict → v.protectionLaw → ({ v.started with keys := k } : Service).protectionLaw)
      (hphase : k.phase = v.keys.phase) : Change sc (some v) (some { v.started with keys := k })
  | created {b : CfgBlock} (hrekeys : sc.rekeys) (hbounds : (SvcConfig.ofBlock b).qmin ≤ (SvcConfig.ofBlock b).qmax) :
      Change sc none (some (Service.created (SvcConfig.ofBlock b)))
  | modified {v : Service} {mask : BitVec 24} {b : CfgBlock} (hrekeys : sc.rekeys)
      (hlive : (v.participant && nonLiveFields.any (selects mask)) = false)
      (hbounds : (v.cfg.overlay mask b).qmin ≤ (v.cfg.overlay mask b).qmax) :
      Change sc (some v) (some (v.modified mask b))
  | acknowledged (v : Service) : Change sc (some v) (some { v with faults := FaultList.empty })
  | emptied (o : Option Service) : Change sc o none

theorem svc_congr (h : t.services = s.services) (n : Svc) : t.svc n = s.svc n := by
  rw [State.svc, State.svc, h]

theorem Change.of_services (h : t.services = s.services) (n : Svc) : Change sc (s.svc n) (t.svc n) := by
  rw [svc_congr h n]
  exact .same _

/-- A move that replaces one entry changes that one alone. -/
theorem Change.of_put {n : Svc} {o : Option Service} (h : Change sc (s.svc n) o)
    (ht : t.services = (s.putSvc n o).services) (m : Svc) : Change sc (s.svc m) (t.svc m) := by
  rw [svc_congr ht m, State.svc_putSvc]
  split
  · next hm => rw [hm]; exact h
  · exact .same _

theorem resetPart_svc (s : State) (n : Svc) : (resetPart s).svc n = none := by
  simp [State.svc, resetPart]

theorem dropCtlAttn_services (s : State) : (dropCtlAttn s).services = s.services := by
  unfold dropCtlAttn
  split <;> rfl

theorem qmin_le_of_defineInRange {b : CfgBlock} (h : defineInRange s b = true) :
    (SvcConfig.ofBlock b).qmin ≤ (SvcConfig.ofBlock b).qmax := by
  simp only [defineInRange, Bool.and_eq_true, decide_eq_true_eq] at h
  exact h.1.1.2

theorem qmin_le_of_modifyInRange {mask : BitVec 24} {b : CfgBlock} {c : SvcConfig}
    (h : modifyInRange s mask b c = true) : c.qmin ≤ c.qmax := by
  simp only [modifyInRange, Bool.and_eq_true, decide_eq_true_eq] at h
  exact h.1.1.2

theorem Move.change (h : Move sc s t) (m : Svc) : Change sc (s.svc m) (t.svc m) := by
  cases h with
  | quiet _ h => exact .of_services (congrArg State.services h) m
  | entry hv h => exact .of_put (hv ▸ .edit h) rfl m
  | opened hv _ hact hbounds hsizes => exact .of_put (hv ▸ .opened hact hbounds hsizes) rfl m
  | closed hv _ hst => exact .of_put (hv ▸ .closed hst) rfl m
  | fault n code =>
    cases hv : s.svc n with
    | none => rw [raiseFault_none n code s hv]; exact .same _
    | some v =>
      rw [raiseFault_some n code s v hv]
      exact .of_put (hv ▸ .fault v code s.frameNumber) rfl m
  | check => rw [recordCheck_eq]; exact .of_services rfl m
  | appended h =>
    obtain ⟨v, hv, -, rfl⟩ := appendCell_some _ _ s t h
    exact .of_put (hv ▸ .appended v) rfl m
  | ended hv hclosed => exact .of_put (hv ▸ .ended hclosed) rfl m
  | started hv hact _ hprot hphase => exact .of_put (hv ▸ .started hact hprot hphase) rfl m
  | created hrekeys hv hrange _ => exact .of_put (hv ▸ .created hrekeys (qmin_le_of_defineInRange hrange)) rfl m
  | modified hrekeys hv hlive hrange =>
    exact .of_put (hv ▸ .modified hrekeys hlive (qmin_le_of_modifyInRange hrange)) rfl m
  | released => exact .of_put (.emptied _) (dropCtlAttn_services _) m
  | acknowledged hv => exact .of_put (hv ▸ .acknowledged _) (dropCtlAttn_services _) m
  | checkCleared =>
    rw [svc_congr (dropCtlAttn_services _) m]
    exact .same _
  | cleared =>
    rw [resetPart_svc]
    exact .emptied _
  | asked | dropped | due | loaded | muxSet | frameBegun | slotPulled | taken | worked | finished | admitted =>
    exact .of_services rfl m

/-- A law of single entries that every change of an entry keeps. -/
theorem Move.keeps_entries {L : Service → Prop}
    (hL : ∀ {o o' : Option Service}, Change sc o o' → (∀ v ∈ o, L v) → ∀ w ∈ o', L w) (h : Move sc s t)
    (hs : ∀ n, ∀ v ∈ s.svc n, L v) : ∀ n, ∀ v ∈ t.svc n, L v :=
  fun n => hL (h.change n) (hs n)

end Sys2Proof.Proofs
end

section
/-! PROOF. The laws of the part that every step keeps: credits, attention lines, fault lists, deficits, rates and cell
sizes (O50, O51, O54, O57). -/

namespace Sys2Proof.Proofs

open Sys2Proof.Machine

variable {sc : Scope} {s t u : State}

/-! ## Credits (R21) -/

theorem creditLaw_congr (hcredits : t.credits = s.credits) (hqueue : t.ingestQueue = s.ingestQueue)
    (hpacker : t.packer = s.packer) (h : s.creditLaw) : t.creditLaw := by
  rw [State.creditLaw, hcredits, hqueue, hpacker]
  exact h

theorem Move.keeps_creditLaw (h : Move sc s t) (hs : s.creditLaw) : t.creditLaw := by
  cases h with
  | quiet _ h =>
    exact creditLaw_congr (congrArg State.credits h) (congrArg State.ingestQueue h) (congrArg State.packer h) hs
  | fault n code =>
    have h := (raiseFault_cellWork n code s).2
    exact creditLaw_congr (congrArg State.credits h) (congrArg State.ingestQueue h) (congrArg State.packer h) hs
  | check => rw [recordCheck_eq]; exact hs
  | appended h =>
    obtain ⟨_, _, _, rfl⟩ := appendCell_some _ _ s t h
    exact hs
  | released | acknowledged | checkCleared =>
    unfold dropCtlAttn
    split <;> exact hs
  | taken w hfree hqueue =>
    rw [State.creditLaw, hfree, hqueue] at hs
    rw [State.creditLaw]
    simp only [Option.isSome_none, Option.isSome_some, List.length_cons, if_true, if_false, Bool.false_eq_true] at *
    omega
  | worked w hwork =>
    rw [State.creditLaw, hwork] at hs
    exact hs
  | finished hwork =>
    rw [State.creditLaw, hwork] at hs
    rw [State.creditLaw]
    simp only [State.returnCredit_credits, State.returnCredit_ingestQueue, State.returnCredit_packer,
      Option.isSome_none, Option.isSome_some, if_true, if_false, Bool.false_eq_true] at *
    omega
  | admitted r hcredit =>
    rw [State.creditLaw] at hs ⊢
    simp only [List.length_append, List.length_singleton] at *
    omega
  | cleared => rfl
  | entry | opened | closed | asked | dropped | due | ended | started | created | modified | loaded | muxSet
  | frameBegun | slotPulled => exact hs

theorem creditLaw_reset : State.reset.creditLaw := rfl

/-- Settles O50, move by move. -/
theorem stepKeepsTheCredits : Obligations.StepKeepsTheCredits :=
  fun _ _ hs h => step_keeps creditLaw_reset (fun _ _ hmove => hmove.keeps_creditLaw) h hs

/-! ## CTL_ATTN (R176) -/

/-- What holds CTL_ATTN: check attention, or a fault list that is not empty. -/
def holdsCtlAttn (s : State) : Prop := s.checks.attention = true ∨ ∃ n : Svc, ∃ v ∈ s.svc n, v.faults.entries ≠ []

theorem ctlAttnLaw_iff (s : State) : s.ctlAttnLaw ↔ (s.ctlAttn = true ↔ holdsCtlAttn s) := Iff.rfl

/-- An entry with a fault list that is not empty. -/
def flagged (o : Option Service) : Prop := ∃ v ∈ o, v.faults.entries ≠ []

theorem flagged_none : ¬ flagged none := fun ⟨_, h, _⟩ => nomatch h

theorem flagged_some (v : Service) : flagged (some v) ↔ v.faults.entries ≠ [] := by
  simp [flagged]

theorem holdsCtlAttn_congr (hatt : t.checks.attention = s.checks.attention)
    (hflag : ∀ n, flagged (t.svc n) ↔ flagged (s.svc n)) : holdsCtlAttn t ↔ holdsCtlAttn s := by
  unfold holdsCtlAttn
  rw [hatt]
  exact or_congr_right (exists_congr hflag)

theorem ctlAttnLaw_congr (hctl : t.ctlAttn = s.ctlAttn) (hatt : t.checks.attention = s.checks.attention)
    (hflag : ∀ n, flagged (t.svc n) ↔ flagged (s.svc n)) (h : s.ctlAttnLaw) : t.ctlAttnLaw := by
  rw [ctlAttnLaw_iff, hctl, holdsCtlAttn_congr hatt hflag]
  exact h

/-- An entry replaced by one with the same entries on its fault list. -/
theorem ctlAttnLaw_put {n : Svc} {o : Option Service} (hservices : t.services = (s.putSvc n o).services)
    (hctl : t.ctlAttn = s.ctlAttn) (hatt : t.checks.attention = s.checks.attention)
    (hflag : flagged o ↔ flagged (s.svc n)) (h : s.ctlAttnLaw) : t.ctlAttnLaw := by
  refine ctlAttnLaw_congr hctl hatt (fun m => ?_) h
  rw [svc_congr hservices m, State.svc_putSvc]
  split
  · next hm => rw [hm]; exact hflag
  · exact Iff.rfl

/-- CTL_ATTN falls just when nothing holds it. -/
theorem ctlAttnLaw_dropCtlAttn (h : holdsCtlAttn s → s.ctlAttn = true) : (dropCtlAttn s).ctlAttnLaw := by
  by_cases hfree : s.faulted = [] ∧ s.checks.attention = false
  · obtain ⟨hnil, hatt⟩ := hfree
    have hnot : ¬ holdsCtlAttn s := by
      rintro (hatt' | hflag)
      · exact Bool.false_ne_true (hatt.symm.trans hatt')
      · exact (faulted_eq_nil_iff s).mp hnil hflag
    rw [dropCtlAttn, if_pos ⟨hnil, hatt⟩, ctlAttnLaw_iff]
    exact ⟨fun h => absurd h Bool.false_ne_true, fun h => absurd h hnot⟩
  · rw [dropCtlAttn, if_neg hfree, ctlAttnLaw_iff]
    refine ⟨fun _ => ?_, h⟩
    by_contra hnot
    refine hfree ⟨(faulted_eq_nil_iff s).mpr fun hflag => hnot (.inr hflag), ?_⟩
    exact Bool.eq_false_iff.mpr fun hatt => hnot (.inl hatt)

theorem raise_entries_ne_nil (l : FaultList) (code : FaultCode) (frame : Word) : (l.raise code frame).entries ≠ [] := by
  unfold FaultList.raise
  split
  · next hany =>
    intro hnil
    rw [List.map_eq_nil_iff.mp hnil] at hany
    cases hany
  · split
    · simp
    · next hlen =>
      intro hnil
      exact hlen (by rw [show l.entries = [] from hnil]; decide)

theorem Move.keeps_ctlAttnLaw (h : Move sc s t) (hs : s.ctlAttnLaw) : t.ctlAttnLaw := by
  cases h with
  | quiet hatt h =>
    have hsvc : ∀ n, t.svc n = s.svc n := svc_congr (congrArg State.services h :)
    have hctl : t.ctlAttn = s.ctlAttn := (congrArg State.ctlAttn h :)
    exact ctlAttnLaw_congr hctl hatt (fun n => by rw [hsvc n]) hs
  | entry hv h => exact ctlAttnLaw_put rfl rfl rfl (by rw [hv, flagged_some, flagged_some, h.faults]) hs
  | opened hv | closed hv | ended hv | started hv =>
    exact ctlAttnLaw_put (s := s) rfl rfl rfl (by rw [hv, flagged_some, flagged_some]; rfl) hs
  | modified hrekeys hv => exact ctlAttnLaw_put rfl rfl rfl (by rw [hv, flagged_some, flagged_some]; rfl) hs
  | created hrekeys hv =>
    exact ctlAttnLaw_put rfl rfl rfl (by rw [hv, flagged_some, iff_false_right flagged_none]; exact fun h => h rfl) hs
  | appended h =>
    obtain ⟨v, hv, -, rfl⟩ := appendCell_some _ _ s t h
    exact ctlAttnLaw_put (s := s) rfl rfl rfl (by rw [hv, flagged_some, flagged_some]) hs
  | fault n code =>
    cases hv : s.svc n with
    | none => rw [raiseFault_none n code s hv]; exact hs
    | some v =>
      have hflag : flagged ((raiseFault n code s).svc n) := by
        rw [raiseFault_some n code s v hv, State.svc_putSvc, if_pos rfl]
        exact ⟨_, rfl, raise_entries_ne_nil _ _ _⟩
      rw [ctlAttnLaw_iff]
      refine ⟨fun _ => .inr ⟨n, hflag⟩, fun _ => ?_⟩
      rw [raiseFault_some n code s v hv]
      by_cases hnil : v.faults.entries = []
      · simp [hnil]
      · have hctl : s.ctlAttn = true := hs.mpr (.inr ⟨n, v, hv, hnil⟩)
        simp [hctl]
  | check c =>
    rw [recordCheck_eq, ctlAttnLaw_iff]
    rw [ctlAttnLaw_iff] at hs
    unfold holdsCtlAttn at *
    simp only [Bool.or_eq_true, hs]
    exact ⟨fun h => h.elim (fun h => h.elim (fun h => .inl (.inl h)) .inr) fun h => .inl (.inr h),
      fun h => h.elim (fun h => h.elim (fun h => .inl (.inl h)) .inr) fun h => .inl (.inr h)⟩
  | @released n v hv hact =>
    refine ctlAttnLaw_dropCtlAttn fun hheld => hs.mpr (hheld.imp_right ?_)
    rintro ⟨m, w, hw, hne⟩
    rw [State.svc_putSvc] at hw
    split at hw
    · cases hw
    · exact ⟨m, w, hw, hne⟩
  | @acknowledged n v hv =>
    refine ctlAttnLaw_dropCtlAttn fun hheld => hs.mpr (hheld.imp_right ?_)
    rintro ⟨m, w, hw, hne⟩
    rw [State.svc_putSvc] at hw
    split at hw
    · cases hw
      exact absurd rfl hne
    · exact ⟨m, w, hw, hne⟩
  | checkCleared =>
    refine ctlAttnLaw_dropCtlAttn fun hheld => hs.mpr (.inr (hheld.resolve_left ?_))
    exact Bool.false_ne_true
  | cleared =>
    rw [ctlAttnLaw_iff]
    refine ⟨.inl, fun h => h.resolve_right ?_⟩
    rintro ⟨n, v, hv, -⟩
    rw [resetPart_svc] at hv
    cases hv
  | asked | dropped | due | loaded | muxSet | frameBegun | slotPulled | taken | worked | finished | admitted => exact hs

theorem reset_svc (n : Svc) : State.reset.svc n = none := by
  simp [State.svc, State.reset]

theorem ctlAttnLaw_reset : State.reset.ctlAttnLaw := by
  refine ⟨fun h => absurd h Bool.false_ne_true, ?_⟩
  rintro (h | ⟨n, v, hv, -⟩)
  · exact absurd h Bool.false_ne_true
  · rw [reset_svc] at hv
    cases hv

/-! ## KEY_ATTN and the one-entry lists (R118, R147) -/

/-- The moves that change the key request set or KEY_ATTN are an addition, a removal and RESET. -/
theorem Move.requests_cases (h : Move sc s t) :
    (t.requests = s.requests ∧ t.keyAttn = s.keyAttn) ∨
      (∃ r, t.requests = insertRequest s.requests r ∧ t.keyAttn = true) ∨
      ∃ keep : KeyRequest → Bool, t.requests = s.requests.filter keep ∧ t.keyAttn = !t.requests.isEmpty := by
  cases h with
  | quiet _ h => exact .inl ⟨(congrArg State.requests h :), (congrArg State.keyAttn h :)⟩
  | fault n code =>
    have h := (raiseFault_cellWork n code s).2
    exact .inl ⟨(congrArg State.requests h :), (congrArg State.keyAttn h :)⟩
  | check => rw [recordCheck_eq]; exact .inl ⟨rfl, rfl⟩
  | appended h =>
    obtain ⟨_, _, _, rfl⟩ := appendCell_some _ _ s t h
    exact .inl ⟨rfl, rfl⟩
  | released | acknowledged | checkCleared =>
    unfold dropCtlAttn
    split <;> exact .inl ⟨rfl, rfl⟩
  | asked n ph urgent => exact .inr (.inl ⟨_, rfl, rfl⟩)
  | dropped gone => exact .inr (.inr ⟨fun e => !gone e, rfl, rfl⟩)
  | cleared => exact .inr (.inr ⟨fun _ => false, by simp [resetPart], rfl⟩)
  | entry | opened | closed | due | ended | started | created | modified | loaded | muxSet | frameBegun | slotPulled
  | taken | worked | finished | admitted => exact .inl ⟨rfl, rfl⟩

theorem Move.keeps_keyAttnLaw (h : Move sc s t) (hs : s.keyAttnLaw) : t.keyAttnLaw := by
  unfold State.keyAttnLaw at *
  rcases h.requests_cases with ⟨hreq, hattn⟩ | ⟨r, hreq, hattn⟩ | ⟨keep, -, hattn⟩
  · rw [hreq, hattn]
    exact hs
  · rw [hreq, hattn]
    exact ⟨fun _ => insertRequest_ne_nil _ _, fun _ => rfl⟩
  · rw [hattn]
    simp

/-- The services of a request set, once each, stay so with an addition. -/
theorem insertRequest_nodup {set : List KeyRequest} (r : KeyRequest) (h : (set.map fun e => e.service).Nodup) :
    ((insertRequest set r).map fun e => e.service).Nodup := by
  rw [insertRequest_services]
  split
  · exact h
  · next hany =>
    refine List.nodup_append.mpr ⟨h, List.nodup_singleton _, fun a ha b hb hab => hany ?_⟩
    rw [List.mem_singleton] at hb
    obtain ⟨e, he, rfl⟩ := List.mem_map.mp ha
    exact List.any_eq_true.mpr ⟨e, he, beq_iff_eq.mpr (hab.trans hb)⟩

/-- The moves that change the due list leave no service on it twice. -/
theorem Move.dueList_nodup (h : Move sc s t) (hs : s.dueList.Nodup) : t.dueList.Nodup := by
  cases h with
  | quiet _ h => rw [show t.dueList = s.dueList from (congrArg State.dueList h :)]; exact hs
  | fault n code =>
    rw [show (raiseFault n code s).dueList = s.dueList from
      (congrArg State.dueList (raiseFault_cellWork n code s).2 :)]
    exact hs
  | check => rw [recordCheck_eq]; exact hs
  | appended h =>
    obtain ⟨_, _, _, rfl⟩ := appendCell_some _ _ s t h
    exact hs
  | released | acknowledged | checkCleared =>
    unfold dropCtlAttn
    split <;> exact hs
  | due l h => exact h hs
  | cleared => exact List.nodup_nil
  | entry | opened | closed | asked | dropped | ended | started | created | modified | loaded | muxSet | frameBegun
  | slotPulled | taken | worked | finished | admitted => exact hs

theorem Move.keeps_listsLaw (h : Move sc s t) (hs : s.listsLaw) : t.listsLaw := by
  obtain ⟨hreq, hdue⟩ := hs
  refine ⟨?_, h.dueList_nodup hdue⟩
  rcases h.requests_cases with ⟨hreq', -⟩ | ⟨r, hreq', -⟩ | ⟨keep, hreq', -⟩
  · rw [hreq']
    exact hreq
  · rw [hreq']
    exact insertRequest_nodup r hreq
  · rw [hreq']
    exact hreq.sublist (List.filter_sublist.map _)

theorem keyAttnLaw_reset : State.reset.keyAttnLaw :=
  ⟨fun h => absurd h Bool.false_ne_true, fun h => absurd rfl h⟩

theorem listsLaw_reset : State.reset.listsLaw := ⟨List.nodup_nil, List.nodup_nil⟩

/-- Settles O51, law by law and move by move. -/
theorem stepKeepsTheAttentionLines : Obligations.StepKeepsTheAttentionLines :=
  fun _ _ h =>
    ⟨step_keeps ctlAttnLaw_reset (fun _ _ hmove => hmove.keeps_ctlAttnLaw) h,
      step_keeps keyAttnLaw_reset (fun _ _ hmove => hmove.keeps_keyAttnLaw) h,
      step_keeps listsLaw_reset (fun _ _ hmove => hmove.keeps_listsLaw) h⟩

/-! ## Fault lists and deficits (R101, R179) -/

theorem law_empty : FaultList.empty.law :=
  ⟨by decide, List.nodup_nil, (fun _ h => nomatch h), fun h => absurd h Bool.false_ne_true⟩

/-- A fault list stays a list of at most four codes, each counted 1 to 255. -/
theorem law_raise {l : FaultList} (h : l.law) (code : FaultCode) (frame : Word) : (l.raise code frame).law := by
  obtain ⟨hlen, hcodes, hcounts, hmore⟩ := h
  by_cases hlisted : ∃ e ∈ l.entries, e.code = code
  · rw [raise_of_listed frame hlisted]
    have hmap : ∀ e : FaultEntry, (if e.code = code then { e with count := min 255 (e.count + 1) } else e).code = e.code := by
      intro e
      split <;> rfl
    refine ⟨by simpa using hlen, ?_, fun e he => ?_, fun h => by simpa using hmore h⟩
    · simpa [Function.comp_def, hmap] using hcodes
    · obtain ⟨x, hx, rfl⟩ := List.mem_map.mp he
      obtain ⟨hlo, hhi⟩ := hcounts x hx
      split
      · exact ⟨by simp only; omega, by simp only; omega⟩
      · exact ⟨hlo, hhi⟩
  · have hnew : ∀ e ∈ l.entries, e.code ≠ code := fun e he hc => hlisted ⟨e, he, hc⟩
    rw [raise_of_not_listed frame hnew]
    split
    · next hroom =>
      have hfull : l.more ≠ true := fun h => Nat.ne_of_lt hroom (hmore h)
      refine ⟨by simp only [List.length_append, List.length_singleton]; omega, ?_, fun e he => ?_, fun h => absurd h hfull⟩
      · rw [List.map_append]
        refine List.nodup_append.mpr ⟨hcodes, List.nodup_singleton _, fun a ha b hb hab => ?_⟩
        obtain ⟨e, he, rfl⟩ := List.mem_map.mp ha
        rw [List.map_singleton, List.mem_singleton] at hb
        exact hnew e he (hab.trans hb)
      · rcases List.mem_append.mp he with he | he
        · exact hcounts e he
        · rw [List.mem_singleton.mp he]
          exact ⟨le_rfl, (by decide : 1 ≤ 255)⟩
    · next hroom => exact ⟨hlen, hcodes, hcounts, fun _ => le_antisymm hlen (Nat.le_of_not_lt hroom)⟩

theorem Change.keeps_faults {o o' : Option Service} (h : Change sc o o') (ho : ∀ v ∈ o, v.faults.law) :
    ∀ w ∈ o', w.faults.law := by
  cases h with
  | same => exact ho
  | @edit v _ h =>
    rintro _ ⟨⟩
    rw [h.faults]
    exact ho v rfl
  | fault v code frame =>
    rintro _ ⟨⟩
    exact law_raise (ho v rfl) code frame
  | @opened v | @closed v | appended v | @ended v | @started v | @modified v =>
    rintro _ ⟨⟩
    exact ho v rfl
  | created | acknowledged =>
    rintro _ ⟨⟩
    exact law_empty
  | emptied => exact fun _ h => nomatch h

theorem Change.keeps_deficit {o o' : Option Service} (h : Change sc o o')
    (ho : ∀ v ∈ o, v.alloc.deficit ≤ v.alloc.grant) : ∀ w ∈ o', w.alloc.deficit ≤ w.alloc.grant := by
  cases h with
  | same => exact ho
  | @edit v _ h =>
    rintro _ ⟨⟩
    exact h.deficit (ho v rfl)
  | @opened v | @closed v | fault v | appended v | @modified v | acknowledged v =>
    rintro _ ⟨⟩
    exact ho v rfl
  | ended =>
    rintro _ ⟨⟩
    exact Nat.zero_le _
  | started | created =>
    rintro _ ⟨⟩
    exact le_rfl
  | emptied => exact fun _ h => nomatch h

/-- A law of single entries holds of the power-on state, which has none. -/
theorem entries_reset {L : Service → Prop} : ∀ n, ∀ v ∈ State.reset.svc n, L v := by
  intro n v hv
  rw [reset_svc] at hv
  cases hv

/-- Settles O54, both laws entry by entry. -/
theorem stepKeepsFaultListsAndDeficits : Obligations.StepKeepsFaultListsAndDeficits :=
  fun _ _ h =>
    ⟨step_keeps (P := State.faultsLaw) entries_reset (fun _ _ hmove => hmove.keeps_entries Change.keeps_faults) h,
      step_keeps (P := State.deficitLaw) entries_reset (fun _ _ hmove => hmove.keeps_entries Change.keeps_deficit) h⟩

/-! ## Rates and cell sizes (R69, R77, R81) -/

theorem Change.keeps_rate {o o' : Option Service} (h : Change sc o o') (ho : ∀ v ∈ o, v.rateLaw) :
    ∀ w ∈ o', w.rateLaw := by
  cases h with
  | same => exact ho
  | @edit v w h =>
    rintro _ ⟨⟩
    obtain ⟨hcfg, hpic⟩ := ho v rfl
    refine ⟨h.cfg ▸ hcfg, fun q hq => ?_⟩
    rcases h.picture with ⟨-, hnone⟩ | ⟨p, q', hp, hq', hedit⟩
    · rw [hnone] at hq
      cases hq
    · obtain rfl := Option.some.inj (hq'.symm.trans hq)
      exact hedit.bounds (hpic p hp)
  | @opened v _ _ hbounds _ =>
    rintro _ ⟨⟩
    have hcfg := (ho v rfl).1
    refine ⟨hcfg, ?_⟩
    rintro _ ⟨⟩
    exact hbounds hcfg
  | @closed v _ hst =>
    rintro _ ⟨⟩
    exact ⟨(ho v rfl).1, fun p hp => by rw [hst] at hp; cases hp⟩
  | fault v | appended v | acknowledged v =>
    rintro _ ⟨⟩
    exact ho v rfl
  | @ended v | @started v =>
    rintro _ ⟨⟩
    exact ⟨(ho v rfl).1, (fun _ hp => nomatch hp)⟩
  | created _ hbounds =>
    rintro _ ⟨⟩
    exact ⟨hbounds, (fun _ hp => nomatch hp)⟩
  | @modified v _ _ _ _ hbounds =>
    rintro _ ⟨⟩
    exact ⟨hbounds, (ho v rfl).2⟩
  | emptied => exact fun _ h => nomatch h

theorem Change.keeps_sized {o o' : Option Service} (h : Change sc o o') (ho : ∀ v ∈ o, ∀ p ∈ v.picture, sized p) :
    ∀ w ∈ o', ∀ p ∈ w.picture, sized p := by
  cases h with
  | same => exact ho
  | @edit v w h =>
    rintro _ ⟨⟩ q hq
    rcases h.picture with ⟨-, hnone⟩ | ⟨p, q', hp, hq', hedit⟩
    · rw [hnone] at hq
      cases hq
    · obtain rfl := Option.some.inj (hq'.symm.trans hq)
      exact hedit.sizes (ho v rfl p hp)
  | opened _ _ hsizes =>
    rintro _ ⟨⟩ _ ⟨⟩
    exact hsizes
  | closed hst =>
    rintro _ ⟨⟩ p hp
    rw [hst] at hp
    cases hp
  | fault v | appended v | acknowledged v | @modified v =>
    rintro _ ⟨⟩
    exact ho v rfl
  | ended | started | created =>
    rintro _ ⟨⟩ _ ⟨⟩
  | emptied => exact fun _ h => nomatch h

/-- Every cell of the pool has at most 736 valid bits (R77). -/
def cellsFit (s : State) : Prop := ∀ x ∈ s.pool.cells, x.2.validBits ≤ 736

theorem cellSizeLaw_iff (s : State) :
    s.cellSizeLaw ↔ (∀ n, ∀ v ∈ s.svc n, ∀ p ∈ v.picture, sized p) ∧ cellsFit s := by
  refine and_congr_left' (forall_congr' fun n => ?_)
  cases hv : s.svc n with
  | none => simp [State.picture, hv]
  | some v => simp only [picture_of_svc hv, Option.mem_some_iff, forall_eq']; rfl

/-- The pool is written by an append alone (R78). -/
theorem Move.pool_cases (h : Move sc s t) :
    t.pool = s.pool ∨ ∃ n c, appendCell n c s = some t ∧ c.service = n ∧ 1 ≤ c.validBits ∧
      (s.cellSizeLaw → c.validBits ≤ 736) := by
  cases h with
  | quiet _ h => exact .inl (congrArg State.pool h :)
  | fault n code =>
    refine .inl ?_
    cases hv : s.svc n with
    | none => rw [raiseFault_none n code s hv]
    | some v => rw [raiseFault_some n code s v hv]; rfl
  | check => rw [recordCheck_eq]; exact .inl rfl
  | appended h hservice hvalid hsize => exact .inr ⟨_, _, h, hservice, hvalid, hsize⟩
  | released | acknowledged | checkCleared =>
    unfold dropCtlAttn
    split <;> exact .inl rfl
  | entry | opened | closed | asked | dropped | due | ended | started | created | modified | loaded | muxSet
  | frameBegun | slotPulled | taken | worked | finished | admitted | cleared => exact .inl rfl

theorem Move.keeps_cellSizeLaw (h : Move sc s t) (hs : s.cellSizeLaw) : t.cellSizeLaw := by
  obtain ⟨hpics, hcells⟩ := (cellSizeLaw_iff s).mp hs
  refine (cellSizeLaw_iff t).mpr ⟨h.keeps_entries Change.keeps_sized hpics, ?_⟩
  rcases h.pool_cases with hpool | ⟨n, c, happend, -, -, hsize⟩
  · unfold cellsFit
    rw [hpool]
    exact hcells
  · obtain ⟨v, -, -, rfl⟩ := appendCell_some n c s t happend
    intro x hx
    rcases Pool.mem_write s.pool v.queue.write c x hx with rfl | hx
    · exact hsize hs
    · exact hcells x hx

theorem cellSizeLaw_reset : State.reset.cellSizeLaw :=
  (cellSizeLaw_iff _).mpr ⟨entries_reset, (fun _ h => nomatch h)⟩

/-- Settles O57: the rate law entry by entry, the cell sizes by entries and by appends. -/
theorem stepKeepsRateAndCellBounds : Obligations.StepKeepsRateAndCellBounds :=
  fun _ _ h =>
    ⟨step_keeps (P := State.rateLaw) entries_reset (fun _ _ hmove => hmove.keeps_entries Change.keeps_rate) h,
      step_keeps cellSizeLaw_reset (fun _ _ hmove => hmove.keeps_cellSizeLaw) h⟩

end Sys2Proof.Proofs
end

section
/-! PROOF. The rings that every step keeps in order (O52): the pool, pointers, regions and the cells that wait. -/

namespace Sys2Proof.Proofs

open Sys2Proof.Machine

variable {sc : Scope} {s t u : State}

/-! ## Regions (R2) -/

/-- Two regions share no cell (R2). -/
def SeparateRegions (c d : SvcConfig) : Prop := c.base + 2 ^ c.k ≤ d.base ∨ d.base + 2 ^ d.k ≤ c.base

theorem SeparateRegions.symm {c d : SvcConfig} (h : SeparateRegions c d) : SeparateRegions d c := Or.symm h

theorem meets_eq_false_iff (c d : SvcConfig) : c.meets d = false ↔ SeparateRegions c d := by
  simp only [SvcConfig.meets, Bool.and_eq_false_iff, decide_eq_false_iff_not, Nat.not_lt]
  exact or_comm

/-- The model's test for shared cells is the statement's (R2). -/
theorem overlapsOther_eq_false_iff (s : State) (n : Svc) (c : SvcConfig) :
    overlapsOther s n c = false ↔ s.regionFree n c := by
  rw [overlapsOther, List.any_eq_false]
  refine ⟨fun h m hm v hv => ?_, fun h m _ => ?_⟩
  · have htest := h m (mem_allServices m)
    rw [Option.mem_def] at hv
    simp only [hv, Bool.and_eq_true, bne_iff_ne, ne_eq, not_and, Bool.not_eq_true] at htest
    exact (meets_eq_false_iff c v.cfg).mp (htest hm)
  · cases hv : s.svc m with
    | none => simp
    | some v =>
      simp only [Bool.and_eq_true, bne_iff_ne, ne_eq, not_and, Bool.not_eq_true]
      exact fun hm => (meets_eq_false_iff c v.cfg).mpr (h m hm v hv)

/-! ## Moves and the rings -/

/-- The place of a region and of a ring in it that a change of an entry leaves, or empties. -/
structure KeepsPlace (v w : Service) : Prop where
  base : w.cfg.base = v.cfg.base
  k : w.cfg.k = v.cfg.k
  ring : KeepsRing v w

/-- What a move does to the rings: entries keep their place with no cell written, a cell is appended, or an entry gets an
empty ring in a free region. -/
inductive RingChange (s t : State) : Prop where
  | kept (hpool : t.pool = s.pool) (h : ∀ n, ∀ w ∈ t.svc n, ∃ v ∈ s.svc n, KeepsPlace v w)
  | appended (n : Svc) (c : PoolCell) (h : appendCell n c s = some t) (hservice : c.service = n) (hvalid : 1 ≤ c.validBits)
  | placed (n : Svc) (w : Service) (hpool : t.pool = s.pool) (h : t.services = (s.putSvc n (some w)).services)
      (hfree : s.regionFree n w.cfg) (hread : w.queue.read = w.cfg.base) (hwrite : w.queue.write = w.cfg.base)

theorem KeepsPlace.refl (v : Service) : KeepsPlace v v := ⟨rfl, rfl, .of_eq rfl rfl rfl⟩

theorem RingChange.of_services (hpool : t.pool = s.pool) (h : t.services = s.services) : RingChange s t :=
  .kept hpool fun n w hw => ⟨w, svc_congr h n ▸ hw, .refl w⟩

/-- One entry replaced by one that keeps its place. -/
theorem RingChange.of_put {n : Svc} {v w : Service} (hv : s.svc n = some v) (hpool : t.pool = s.pool)
    (h : t.services = (s.putSvc n (some w)).services) (hplace : KeepsPlace v w) : RingChange s t := by
  refine .kept hpool fun m x hx => ?_
  rw [svc_congr h m, State.svc_putSvc] at hx
  split at hx
  · next hm =>
    cases hx
    exact ⟨v, hm ▸ hv, hplace⟩
  · exact ⟨x, hx, .refl x⟩

/-- A modification that does not select the region leaves it in its place. -/
theorem modified_keepsPlace {v : Service} {mask : BitVec 24} {b : CfgBlock} (h : movesRegion mask = false) :
    KeepsPlace v (v.modified mask b) := by
  obtain ⟨hbase, hk⟩ := Bool.or_eq_false_iff.mp h
  have hcfg : (v.modified mask b).cfg.base = v.cfg.base ∧ (v.modified mask b).cfg.k = v.cfg.k := by
    simp [Service.modified, SvcConfig.overlay, hbase, hk]
  have hqueue : (v.modified mask b).queue = v.queue := by simp [Service.modified, h]
  refine ⟨hcfg.1, hcfg.2, fun hlaw => ?_⟩
  simp only [Service.pointersLaw, Service.ringLength, Service.ringCell, regionSize_eq, hcfg, hqueue]
  exact ⟨hlaw, fun i hi => ⟨i, hi, rfl⟩⟩

theorem Move.ringChange (h : Move sc s t) : RingChange s t := by
  cases h with
  | quiet _ h => exact .of_services (congrArg State.pool h :) (congrArg State.services h :)
  | entry hv h => exact .of_put hv rfl rfl ⟨congrArg _ h.cfg, congrArg _ h.cfg, h.ring⟩
  | opened hv | closed hv | ended hv => exact .of_put hv rfl rfl ⟨rfl, rfl, .of_eq rfl rfl rfl⟩
  | fault n code =>
    cases hv : s.svc n with
    | none => rw [raiseFault_none n code s hv]; exact .of_services rfl rfl
    | some v =>
      rw [raiseFault_some n code s v hv]
      exact .of_put hv rfl rfl ⟨rfl, rfl, .of_eq rfl rfl rfl⟩
  | check => rw [recordCheck_eq]; exact .of_services rfl rfl
  | appended h hservice hvalid => exact .appended _ _ h hservice hvalid
  | started hv =>
    exact .of_put hv rfl rfl ⟨rfl, rfl, .of_empty rfl rfl fun hlaw => ⟨le_rfl, hlaw.1.trans_lt hlaw.2.1⟩⟩
  | created _ _ _ hfree => exact .placed _ _ rfl rfl ((overlapsOther_eq_false_iff _ _ _).mp hfree) rfl rfl
  | @modified _ n v mask b _ hv _ _ hfree =>
    cases hmoves : movesRegion mask with
    | false => exact .of_put hv rfl rfl (modified_keepsPlace hmoves)
    | true =>
      rw [hmoves, Bool.true_and] at hfree
      refine .placed n _ rfl rfl ((overlapsOther_eq_false_iff _ _ _).mp hfree) ?_ ?_
      all_goals simp [Service.modified, hmoves]
  | released =>
    refine .kept (by unfold dropCtlAttn; split <;> rfl) fun m w hw => ⟨w, ?_, .refl w⟩
    rw [svc_congr (dropCtlAttn_services _) m, State.svc_putSvc] at hw
    split at hw
    · cases hw
    · exact hw
  | acknowledged hv =>
    exact .of_put hv (by unfold dropCtlAttn; split <;> rfl) (dropCtlAttn_services _) ⟨rfl, rfl, .of_eq rfl rfl rfl⟩
  | checkCleared => exact .of_services (by unfold dropCtlAttn; split <;> rfl) (dropCtlAttn_services _)
  | cleared =>
    refine .kept rfl fun m w hw => ?_
    rw [resetPart_svc] at hw
    cases hw
  | asked | dropped | due | loaded | muxSet | frameBegun | slotPulled | taken | worked | finished | admitted =>
    exact .of_services rfl rfl

/-! ## Cells of a ring (R75, R76) -/

/-- The cells of a ring lie in its region. -/
theorem ringCell_mem (v : Service) (i : Nat) :
    v.cfg.base ≤ v.ringCell i ∧ v.ringCell i < v.cfg.base + 2 ^ v.cfg.k := by
  have hmod := Nat.mod_lt (v.queue.read - v.cfg.base + i) (Nat.two_pow_pos v.cfg.k)
  rw [Service.ringCell]
  omega

theorem ringLength_lt (v : Service) : v.ringLength < 2 ^ v.cfg.k := Nat.mod_lt _ (Nat.two_pow_pos _)

/-- The cell behind the last one that waits is the one the write pointer names. -/
theorem ringCell_ringLength {v : Service} (h : v.pointersLaw) : v.ringCell v.ringLength = v.queue.write := by
  rw [Service.ringCell, ringLength_of_pointersLaw h]
  obtain ⟨hr, hr', hw, hw'⟩ := h
  generalize 2 ^ v.cfg.k = size at *
  split
  · rw [Nat.mod_eq_of_lt (by omega)]
    omega
  · rw [show v.queue.read - v.cfg.base + (v.queue.write + size - v.queue.read) = v.queue.write - v.cfg.base + size by omega,
      Nat.add_mod_right, Nat.mod_eq_of_lt (by omega)]
    omega

/-- Two places of a ring are one cell only if they are one place. -/
theorem ringCell_inj {v : Service} {i j : Nat} (hi : i < 2 ^ v.cfg.k) (hj : j < 2 ^ v.cfg.k)
    (h : v.ringCell i = v.ringCell j) : i = j := by
  have hmod : (v.queue.read - v.cfg.base + i) ≡ (v.queue.read - v.cfg.base + j) [MOD 2 ^ v.cfg.k] :=
    Nat.add_left_cancel h
  exact Nat.ModEq.eq_of_lt_of_lt (Nat.ModEq.add_left_cancel' _ hmod) hi hj

/-- A ring with its write pointer advanced is one cell longer, if it was not full. -/
theorem ringLength_advance {v : Service} (h : v.pointersLaw) (hroom : v.ringLength ≠ 2 ^ v.cfg.k - 1) :
    ({ v with queue := { v.queue with write := v.cfg.advance v.queue.write } } : Service).ringLength = v.ringLength + 1 := by
  have hlt := ringLength_lt v
  have hlaw : ({ v with queue := { v.queue with write := v.cfg.advance v.queue.write } } : Service).pointersLaw :=
    ⟨h.1, h.2.1, advance_mem h.2.2.1⟩
  rw [ringLength_of_pointersLaw hlaw]
  rw [ringLength_of_pointersLaw h] at hroom hlt ⊢
  obtain ⟨hr, hr', hw, hw'⟩ := h
  dsimp only
  rw [SvcConfig.advance, regionSize_eq]
  generalize 2 ^ v.cfg.k = size at *
  split_ifs at * <;> omega

/-! ## The law of the rings -/

/-- An append keeps the rings in order (R75, R78): it writes the cell behind the last of the service's own ring. -/
theorem ringsLaw_of_appended {n : Svc} {c : PoolCell} (h : appendCell n c s = some t) (hservice : c.service = n)
    (hvalid : 1 ≤ c.validBits) (hs : s.ringsLaw) : t.ringsLaw := by
  obtain ⟨hwf, hptr, hregions, hcells⟩ := hs
  obtain ⟨v, hv, hroom, rfl⟩ := appendCell_some n c s t h
  have hlaw := hptr n v hv
  have hfull : v.ringLength ≠ 2 ^ v.cfg.k - 1 := fun he =>
    Bool.false_ne_true (hroom.symm.trans ((ringFull_iff v).mpr he))
  set w : Service := { v with queue := { v.queue with write := v.cfg.advance v.queue.write } } with hw
  have hentry (m : Svc) : ∀ x ∈ (({ s with pool := s.pool.write v.queue.write c } : State).putSvc n (some w)).svc m,
      (m = n ∧ x = w) ∨ (m ≠ n ∧ s.svc m = some x) := by
    intro x hx
    rw [State.svc_putSvc] at hx
    split at hx
    · next hm =>
      cases hx
      exact .inl ⟨hm, rfl⟩
    · next hm => exact .inr ⟨hm, hx⟩
  refine ⟨Pool.wf_write _ _ _ hwf, fun m x hx => ?_, fun m m' hne x hx y hy => ?_, fun m x hx i hi => ?_⟩
  · rcases hentry m x hx with ⟨-, rfl⟩ | ⟨-, hx⟩
    · exact ⟨hlaw.1, hlaw.2.1, advance_mem hlaw.2.2.1⟩
    · exact hptr m x hx
  · rcases hentry m x hx with ⟨hm, rfl⟩ | ⟨hm, hx'⟩ <;> rcases hentry m' y hy with ⟨hm', rfl⟩ | ⟨hm', hy'⟩
    · exact absurd (hm.trans hm'.symm) hne
    · exact hregions n m' (hm ▸ hne) v hv y hy'
    · exact hregions m n hm x hx' v hv
    · exact hregions m m' hne x hx' y hy'
  · change 1 ≤ (Pool.read (s.pool.write v.queue.write c) _).validBits ∧
      (Pool.read (s.pool.write v.queue.write c) _).service = m
    rcases hentry m x hx with ⟨rfl, rfl⟩ | ⟨hm, hx⟩
    · rw [ringLength_advance hlaw hfull] at hi
      have hcell : w.ringCell i = v.ringCell i := rfl
      rw [hcell]
      rcases Nat.lt_succ_iff_lt_or_eq.mp hi with hi | rfl
      · have hother : v.ringCell i ≠ v.queue.write := by
          rw [← ringCell_ringLength hlaw]
          exact fun he => hi.ne (ringCell_inj (hi.trans (ringLength_lt v)) (ringLength_lt v) he)
        rw [Pool.read_write_other _ _ _ _ hother]
        exact hcells _ v hv i hi
      · rw [ringCell_ringLength hlaw, Pool.read_write_same]
        exact ⟨hvalid, hservice⟩
    · have hother : x.ringCell i ≠ v.queue.write := by
        have hmem := ringCell_mem x i
        have hapart := hregions m n hm x hx v hv
        obtain ⟨-, -, hlo, hhi⟩ := hlaw
        omega
      rw [Pool.read_write_other _ _ _ _ hother]
      exact hcells m x hx i hi

theorem Move.keeps_ringsLaw (h : Move sc s t) (hs : s.ringsLaw) : t.ringsLaw := by
  rcases h.ringChange with ⟨hpool, hkept⟩ | ⟨n, c, happend, hservice, hvalid⟩ | ⟨n, w, hpool, hput, hfree, hread, hwrite⟩
  · obtain ⟨hwf, hptr, hregions, hcells⟩ := hs
    refine ⟨hpool ▸ hwf, fun m x hx => ?_, fun m m' hne x hx y hy => ?_, fun m x hx i hi => ?_⟩
    · obtain ⟨v, hv, hplace⟩ := hkept m x hx
      exact (hplace.ring (hptr m v hv)).1
    · obtain ⟨v, hv, hplace⟩ := hkept m x hx
      obtain ⟨v', hv', hplace'⟩ := hkept m' y hy
      rw [hplace.base, hplace.k, hplace'.base, hplace'.k]
      exact hregions m m' hne v hv v' hv'
    · obtain ⟨v, hv, hplace⟩ := hkept m x hx
      obtain ⟨j, hj, hcell⟩ := (hplace.ring (hptr m v hv)).2 i hi
      rw [hpool, hcell]
      exact hcells m v hv j hj
  · exact ringsLaw_of_appended happend hservice hvalid hs
  · obtain ⟨hwf, hptr, hregions, hcells⟩ := hs
    have hentry (m : Svc) : ∀ x ∈ t.svc m, (m = n ∧ x = w) ∨ (m ≠ n ∧ s.svc m = some x) := by
      intro x hx
      rw [svc_congr hput m, State.svc_putSvc] at hx
      split at hx
      · next hm =>
        cases hx
        exact .inl ⟨hm, rfl⟩
      · next hm => exact .inr ⟨hm, hx⟩
    have hlaw : w.pointersLaw := by
      have hpos := Nat.two_pow_pos w.cfg.k
      rw [Service.pointersLaw, hread, hwrite]
      omega
    refine ⟨hpool ▸ hwf, fun m x hx => ?_, fun m m' hne x hx y hy => ?_, fun m x hx i hi => ?_⟩
    · rcases hentry m x hx with ⟨-, rfl⟩ | ⟨-, hx⟩
      · exact hlaw
      · exact hptr m x hx
    · rcases hentry m x hx with ⟨hm, rfl⟩ | ⟨hm, hx'⟩ <;> rcases hentry m' y hy with ⟨hm', rfl⟩ | ⟨hm', hy'⟩
      · exact absurd (hm.trans hm'.symm) hne
      · exact hfree m' hm' y hy'
      · exact SeparateRegions.symm (hfree m hm x hx')
      · exact hregions m m' hne x hx' y hy'
    · rcases hentry m x hx with ⟨-, rfl⟩ | ⟨-, hx⟩
      · rw [ringLength_of_pointersLaw hlaw, hread, hwrite, if_pos le_rfl, Nat.sub_self] at hi
        exact absurd hi (Nat.not_lt_zero i)
      · rw [hpool]
        exact hcells m x hx i hi

theorem ringsLaw_reset : State.reset.ringsLaw := by
  refine ⟨Pool.wf_reset, entries_reset, fun m n _ v hv => ?_, fun n v hv => ?_⟩
  all_goals
    rw [reset_svc] at hv
    cases hv

/-- Settles O52, by what each move does to the rings. -/
theorem stepKeepsTheRings : Obligations.StepKeepsTheRings :=
  fun _ _ hs h => step_keeps ringsLaw_reset (fun _ _ hmove => hmove.keeps_ringsLaw) h hs

end Sys2Proof.Proofs
end

section
/-! PROOF. The users counts of the weight banks (O53) and the multiplex with its participants (O56): laws of sums over the
sixteen entries. -/

namespace Sys2Proof.Proofs

open Sys2Proof.Machine

variable {sc : Scope} {s t u : State}

/-! ## Sums over the entries -/

/-- What all entries come to, one number for each. -/
def sumOver (f : Svc → Nat) : Nat := (allServices.map f).sum

/-- Two sums over a list in which one service stands once, and elsewhere the same. -/
theorem sum_map_add_of_agree {f g : Svc → Nat} {n : Svc} (h : ∀ m, m ≠ n → g m = f m) (l : List Svc) (hl : l.Nodup) :
    if n ∈ l then (l.map g).sum + f n = (l.map f).sum + g n else (l.map g).sum = (l.map f).sum := by
  induction l with
  | nil => simp
  | cons m l ih =>
    obtain ⟨hm, hl⟩ := List.nodup_cons.mp hl
    have hrest := ih hl
    simp only [List.map_cons, List.sum_cons, List.mem_cons]
    by_cases hnm : n = m
    · subst hnm
      rw [if_neg hm] at hrest
      rw [if_pos (.inl rfl), hrest]
      omega
    · rw [h m (Ne.symm hnm)]
      simp only [hnm, false_or]
      split
      · next hn => rw [if_pos hn] at hrest; omega
      · next hn => rw [if_neg hn] at hrest; omega

theorem sumOver_add_of_agree {f g : Svc → Nat} (n : Svc) (h : ∀ m, m ≠ n → g m = f m) :
    sumOver g + f n = sumOver f + g n := by
  have hsum := sum_map_add_of_agree h allServices nodup_allServices
  rwa [if_pos (mem_allServices n)] at hsum

theorem sumOver_congr {f g : Svc → Nat} (h : ∀ m, g m = f m) : sumOver g = sumOver f :=
  congrArg sumOver (funext h)

theorem length_filter_eq_sum (p : Svc → Bool) (l : List Svc) :
    (l.filter p).length = (l.map fun n => (p n).toNat).sum := by
  induction l with
  | nil => rfl
  | cons n l ih => cases hp : p n <;> simp [hp, ih, Nat.add_comm]

/-- A number for each entry, its sum before and after one entry is replaced. -/
theorem sumOver_put (f : Option Service → Nat) {n : Svc} {o : Option Service}
    (h : t.services = (s.putSvc n o).services) :
    sumOver (fun m => f (t.svc m)) + f (s.svc n) = sumOver (fun m => f (s.svc m)) + f o := by
  have hsum := sumOver_add_of_agree (f := fun m => f (s.svc m)) (g := fun m => f (t.svc m)) n fun m hm => by
    rw [svc_congr h m, State.svc_putSvc, if_neg hm]
  rwa [svc_congr h n, State.svc_putSvc, if_pos rfl] at hsum

/-! ## Users of a bank (R41 to R43) -/

/-- 1 for an entry with an open picture that took a bank. -/
def openBit (b : Bank) (o : Option Service) : Nat := ((o.bind Service.picture).any fun p => p.bank == b).toNat

theorem openOn_eq (s : State) (b : Bank) : s.openOn b = sumOver fun n => openBit b (s.svc n) := by
  rw [State.openOn, length_filter_eq_sum]
  refine sumOver_congr fun n => ?_
  rw [openBit, State.picture]
  cases s.svc n <;> rfl

theorem openBit_of_picture {o : Option Service} {v : Service} (h : o = some v) (b : Bank) :
    openBit b o = (v.picture.any fun p => p.bank == b).toNat := by
  rw [h]; rfl

/-- An entry replaced: the open pictures of a bank before and after. -/
theorem openOn_put (b : Bank) {n : Svc} {o : Option Service} (h : t.services = (s.putSvc n o).services) :
    t.openOn b + openBit b (s.svc n) = s.openOn b + openBit b o := by
  rw [openOn_eq, openOn_eq]
  exact sumOver_put (openBit b) h

theorem users_addUser (q : Quantizer) (a b : Bank) : (q.addUser a).users b = q.users b + (a == b).toNat := by
  cases a <;> cases b <;> rfl

theorem users_dropUser (q : Quantizer) (a b : Bank) : (q.dropUser a).users b = q.users b - (a == b).toNat := by
  cases a <;> cases b <;> rfl

/-- The counts of both banks. -/
def countsPictures (s : State) : Prop := ∀ b, s.quant.users b = s.openOn b

/-- A DEFINED service has no open picture. -/
def closedWhenDefined (v : Service) : Prop := v.activity = .defined → v.picture = none

theorem usersLaw_iff (s : State) :
    s.usersLaw ↔ countsPictures s ∧ ∀ n, ∀ v ∈ s.svc n, closedWhenDefined v := by
  constructor
  · rintro ⟨hzero, hone, hclosed⟩
    refine ⟨fun b => ?_, hclosed⟩
    cases b
    · exact hzero
    · exact hone
  · rintro ⟨hcounts, hclosed⟩
    exact ⟨hcounts .zero, hcounts .one, hclosed⟩

theorem countsPictures_congr (husers : ∀ b, t.quant.users b = s.quant.users b) (hservices : t.services = s.services)
    (h : countsPictures s) : countsPictures t := by
  intro b
  rw [husers, h b, openOn_eq, openOn_eq]
  exact sumOver_congr fun n => by rw [svc_congr hservices n]

/-- An entry replaced by one whose open picture is on the same bank. -/
theorem countsPictures_put {n : Svc} {o : Option Service} (hservices : t.services = (s.putSvc n o).services)
    (husers : ∀ b, t.quant.users b = s.quant.users b) (hbit : ∀ b, openBit b o = openBit b (s.svc n))
    (h : countsPictures s) : countsPictures t := by
  intro b
  have hput := openOn_put b hservices
  have hb := hbit b
  rw [husers, h b]
  omega

theorem openBit_keepsPicture {v w : Service} (h : KeepsPicture v w) (b : Bank) :
    openBit b (some w) = openBit b (some v) := by
  rw [openBit_of_picture rfl, openBit_of_picture rfl]
  rcases h with ⟨hv, hw⟩ | ⟨p, q, hv, hw, hedit⟩
  · rw [hv, hw]
  · rw [hv, hw]
    simp only [Option.any_some, hedit.bank]

theorem openBit_closed {v : Service} (h : v.picture = none) (b : Bank) : openBit b (some v) = 0 := by
  rw [openBit_of_picture rfl, h]; rfl

theorem dropCtlAttn_quant (s : State) : (dropCtlAttn s).quant = s.quant := by
  unfold dropCtlAttn
  split <;> rfl

theorem Move.keeps_countsPictures (h : Move sc s t) (hclosed : ∀ n, ∀ v ∈ s.svc n, closedWhenDefined v)
    (hs : countsPictures s) : countsPictures t := by
  cases h with
  | quiet _ h =>
    refine countsPictures_congr (fun b => ?_) (congrArg State.services h :) hs
    rw [show t.quant = s.quant from (congrArg State.quant h :)]
  | entry hv h => exact countsPictures_put rfl (fun _ => rfl) (fun b => by rw [hv]; exact openBit_keepsPicture h.picture b) hs
  | @opened _ n v p hv hnone =>
    intro b
    have hput := openOn_put b (s := { s with quant := s.quant.addUser p.bank }) (n := n)
      (o := some (v.setIngest (.inPicture p))) rfl
    have hbit : openBit b (some (v.setIngest (.inPicture p))) = (p.bank == b).toNat := rfl
    have hbefore : openBit b (s.svc n) = 0 := by rw [hv]; exact openBit_closed hnone b
    change State.openOn _ b + openBit b (s.svc n) = s.openOn b + _ at hput
    rw [hbit, hbefore] at hput
    rw [State.putSvc_quant, users_addUser, hs b]
    exact hput.symm
  | @closed _ n v p st hv hopen hst =>
    intro b
    have hput := openOn_put b (s := { s with quant := s.quant.dropUser p.bank }) (n := n) (o := some (v.setIngest st)) rfl
    have hbefore : openBit b (s.svc n) = (p.bank == b).toNat := by rw [openBit_of_picture hv, hopen]; rfl
    change State.openOn _ b + openBit b (s.svc n) = s.openOn b + _ at hput
    rw [openBit_closed hst, hbefore] at hput
    rw [State.putSvc_quant, users_dropUser, hs b]
    omega
  | fault n code =>
    cases hv : s.svc n with
    | none => rw [raiseFault_none n code s hv]; exact hs
    | some v =>
      rw [raiseFault_some n code s v hv]
      exact countsPictures_put (s := s) rfl (fun _ => rfl) (fun b => by rw [hv]; rfl) hs
  | check => rw [recordCheck_eq]; exact hs
  | appended h =>
    obtain ⟨v, hv, -, rfl⟩ := appendCell_some _ _ s t h
    exact countsPictures_put (s := s) rfl (fun _ => rfl) (fun b => by rw [hv]; rfl) hs
  | ended hv hnone =>
    exact countsPictures_put rfl (fun _ => rfl)
      (fun b => by rw [hv, openBit_closed hnone]; rfl) hs
  | started hv hact =>
    exact countsPictures_put rfl (fun _ => rfl)
      (fun b => by rw [hv, openBit_closed (hclosed _ _ hv hact)]; rfl) hs
  | created _ hv => exact countsPictures_put rfl (fun _ => rfl) (fun b => by rw [hv]; rfl) hs
  | modified _ hv => exact countsPictures_put rfl (fun _ => rfl) (fun b => by rw [hv]; rfl) hs
  | released hv hact =>
    exact countsPictures_put (dropCtlAttn_services _) (fun _ => by rw [dropCtlAttn_quant]; rfl)
      (fun b => by rw [hv, openBit_closed (hclosed _ _ hv hact)]; rfl) hs
  | acknowledged hv =>
    exact countsPictures_put (dropCtlAttn_services _) (fun _ => by rw [dropCtlAttn_quant]; rfl)
      (fun b => by rw [hv]; rfl) hs
  | checkCleared =>
    exact countsPictures_congr (s := s) (fun _ => by rw [dropCtlAttn_quant]) (dropCtlAttn_services _) hs
  | loaded =>
    refine countsPictures_congr (s := s) (fun b => ?_) rfl hs
    dsimp only [Quantizer.load]
    cases s.quant.active <;> cases b <;> rfl
  | cleared =>
    intro b
    rw [openOn_eq, sumOver_congr (f := fun _ => 0) fun n => by rw [resetPart_svc]; rfl]
    cases b <;> rfl
  | asked | dropped | due | muxSet | frameBegun | slotPulled | taken | worked | finished | admitted => exact hs

theorem Change.keeps_closed {o o' : Option Service} (h : Change sc o o') (ho : ∀ v ∈ o, closedWhenDefined v) :
    ∀ w ∈ o', closedWhenDefined w := by
  cases h with
  | same => exact ho
  | @edit v w h =>
    rintro _ ⟨⟩ hact
    have hnone := ho v rfl (h.active.mp hact)
    rcases h.picture with ⟨-, hw⟩ | ⟨p, q, hv, -, -⟩
    · exact hw
    · rw [hnone] at hv
      cases hv
  | @opened v _ hact =>
    rintro _ ⟨⟩ hdef
    exact absurd hdef hact
  | closed hst =>
    rintro _ ⟨⟩ _
    exact hst
  | fault v | appended v | @modified v | acknowledged v =>
    rintro _ ⟨⟩
    exact ho v rfl
  | ended | created | started =>
    rintro _ ⟨⟩ _
    rfl
  | emptied => exact fun _ h => nomatch h

theorem Move.keeps_usersLaw (h : Move sc s t) (hs : s.usersLaw) : t.usersLaw := by
  obtain ⟨hcounts, hclosed⟩ := (usersLaw_iff s).mp hs
  exact (usersLaw_iff t).mpr
    ⟨h.keeps_countsPictures hclosed hcounts, h.keeps_entries Change.keeps_closed hclosed⟩

theorem usersLaw_reset : State.reset.usersLaw := by
  refine (usersLaw_iff _).mpr ⟨fun b => ?_, entries_reset⟩
  rw [openOn_eq, sumOver_congr (f := fun _ => 0) fun n => by rw [reset_svc]; rfl]
  cases b <;> rfl

/-- Settles O53: the counts by what each move does to the open pictures, the rest entry by entry. -/
theorem stepKeepsTheBankUsers : Obligations.StepKeepsTheBankUsers :=
  fun _ _ hs h => step_keeps usersLaw_reset (fun _ _ hmove => hmove.keeps_usersLaw) h hs

/-! ## Committed slots (R13) -/

/-- The payload slots per period that an entry commits under an A: those of a participant, and none otherwise. -/
def committedOf (a : Nat) (o : Option Service) : Nat :=
  match o with
  | some v => if v.participant then v.cfg.committed a else 0
  | none => 0

theorem sum_filterMap {α β : Type} (f : α → Option β) (g : β → Nat) (l : List α) :
    ((l.filterMap f).map g).sum = (l.map fun x => (f x).elim 0 g).sum := by
  induction l with
  | nil => rfl
  | cons x l ih => cases hf : f x <;> simp [hf, ih]

theorem committedSlots_eq (s : State) : s.committedSlots = sumOver fun n => committedOf s.inForce.a (s.svc n) := by
  rw [State.committedSlots, State.participants, sum_filterMap]
  refine sumOver_congr fun n => ?_
  cases s.svc n with
  | none => rfl
  | some v => cases hp : v.participant <;> simp [committedOf, hp]

/-- The participants besides one service are those of the state without it. -/
theorem participants_putSvc_none (s : State) (n : Svc) :
    (s.putSvc n none).participants = s.participants.filter fun x => x.1 != n := by
  unfold State.participants
  rw [List.filter_filterMap]
  refine List.filterMap_congr fun m _ => ?_
  rw [State.svc_putSvc]
  by_cases hm : m = n
  · subst hm
    rw [if_pos rfl]
    cases s.svc m with
    | none => rfl
    | some v => cases hp : v.participant <;> simp [hp, Option.filter]
  · rw [if_neg hm]
    cases s.svc m with
    | none => rfl
    | some v => cases hp : v.participant <;> simp [hp, hm, Option.filter]

/-- The model's capacity check is the statement's (R13). -/
theorem capacityOk_iff_fits (s : State) (n : Svc) (c : SvcConfig) : capacityOk s n c = true ↔ s.fits n c := by
  rw [capacityOk, decide_eq_true_iff, State.fits]

theorem fits_iff (s : State) (n : Svc) (c : SvcConfig) :
    s.fits n c ↔ (s.putSvc n none).committedSlots + c.committed s.inForce.a ≤ s.inForce.periodSlots := by
  rw [State.fits, State.committedSlots, participants_putSvc_none]
  rfl

theorem committedSlots_put {n : Svc} {o : Option Service} (hservices : t.services = (s.putSvc n o).services)
    (hmux : t.inForce = s.inForce) :
    t.committedSlots + committedOf s.inForce.a (s.svc n) = s.committedSlots + committedOf s.inForce.a o := by
  rw [committedSlots_eq, committedSlots_eq, hmux]
  exact sumOver_put (committedOf s.inForce.a) hservices

/-- The committed slots fit the period in force. -/
def fitsPeriod (s : State) : Prop := s.committedSlots ≤ s.inForce.periodSlots

theorem fitsPeriod_congr (hservices : t.services = s.services) (hmux : t.inForce = s.inForce) (h : fitsPeriod s) :
    fitsPeriod t := by
  rw [fitsPeriod, hmux, committedSlots_eq, sumOver_congr (f := fun n => committedOf s.inForce.a (s.svc n)) fun n => by
    rw [svc_congr hservices n, hmux], ← committedSlots_eq]
  exact h

/-- An entry replaced by one that commits no more. -/
theorem fitsPeriod_put {n : Svc} {o : Option Service} (hservices : t.services = (s.putSvc n o).services)
    (hmux : t.inForce = s.inForce) (hle : committedOf s.inForce.a o ≤ committedOf s.inForce.a (s.svc n))
    (h : fitsPeriod s) : fitsPeriod t := by
  have hput := committedSlots_put hservices hmux
  unfold fitsPeriod at *
  rw [hmux]
  omega

/-- An entry replaced by one that the capacity check lets pass. -/
theorem fitsPeriod_of_fits {n : Svc} {w : Service} (h : s.fits n w.cfg) : fitsPeriod (s.putSvc n (some w)) := by
  have hput := committedSlots_put (s := s.putSvc n none) (t := s.putSvc n (some w)) (n := n) (o := some w)
    (by rw [putSvc_putSvc]) rfl
  have hbefore : committedOf s.inForce.a ((s.putSvc n none).svc n) = 0 := by rw [State.svc_putSvc, if_pos rfl]; rfl
  have hafter : committedOf s.inForce.a (some w) ≤ w.cfg.committed s.inForce.a := by
    dsimp only [committedOf]
    split
    · exact le_rfl
    · exact Nat.zero_le _
  rw [fits_iff] at h
  change _ + committedOf s.inForce.a ((s.putSvc n none).svc n) = _ + committedOf s.inForce.a (some w) at hput
  change (s.putSvc n (some w)).committedSlots ≤ s.inForce.periodSlots
  omega

/-- A configuration with the floor, the protection and the E of another commits what that commits. -/
theorem committed_overlay {c : SvcConfig} {mask : BitVec 24} (b : CfgBlock) (a : Nat) (hprot : selects mask 2 = false)
    (hfloor : selects mask 3 = false) (he : selects mask 14 = false) : (c.overlay mask b).committed a = c.committed a := by
  simp [SvcConfig.committed, SvcConfig.overlay, hprot, hfloor, he]

theorem committedOf_defined {v : Service} (a : Nat) (h : v.activity = .defined) : committedOf a (some v) = 0 := by
  simp [committedOf, Service.participant, h]

theorem committedOf_congr {v w : Service} (a : Nat) (hcfg : w.cfg = v.cfg)
    (hact : w.activity = .defined ↔ v.activity = .defined) : committedOf a (some w) = committedOf a (some v) := by
  have hpart : w.participant = v.participant := by
    rw [Service.participant, Service.participant, Bool.eq_iff_iff, bne_iff_ne, bne_iff_ne, ne_eq, ne_eq, hact]
  simp only [committedOf, hcfg, hpart]

theorem dropCtlAttn_inForce (s : State) : (dropCtlAttn s).inForce = s.inForce := by
  unfold dropCtlAttn
  split <;> rfl

theorem participant_eq_false_of_count {n : Svc} {v : Service} (h : s.participantCount = 0) (hv : s.svc n = some v) :
    v.participant = false := by
  rw [State.participantCount, List.length_eq_zero_iff, List.filter_eq_nil_iff] at h
  have hn := h n (mem_allServices n)
  rw [State.isParticipant, hv] at hn
  exact Bool.eq_false_iff.mpr hn

theorem Move.keeps_fitsPeriod (h : Move sc s t) (hs : fitsPeriod s) : fitsPeriod t := by
  cases h with
  | quiet _ h => exact fitsPeriod_congr (congrArg State.services h :) (congrArg State.inForce h :) hs
  | entry hv h =>
    exact fitsPeriod_put rfl rfl (by rw [hv]; exact (committedOf_congr _ h.cfg h.active).le) hs
  | opened hv | closed hv =>
    exact fitsPeriod_put (s := s) rfl rfl (by rw [hv]; exact (committedOf_congr _ rfl Iff.rfl).le) hs
  | fault n code =>
    cases hv : s.svc n with
    | none => rw [raiseFault_none n code s hv]; exact hs
    | some v =>
      rw [raiseFault_some n code s v hv]
      exact fitsPeriod_put (s := s) rfl rfl (by rw [hv]; exact le_rfl) hs
  | check => rw [recordCheck_eq]; exact hs
  | appended h =>
    obtain ⟨v, hv, -, rfl⟩ := appendCell_some _ _ s t h
    exact fitsPeriod_put (s := s) rfl rfl (by rw [hv]; exact le_rfl) hs
  | ended hv =>
    exact fitsPeriod_put rfl rfl ((committedOf_defined _ rfl).trans_le (Nat.zero_le _)) hs
  | created =>
    exact fitsPeriod_put rfl rfl ((committedOf_defined _ rfl).trans_le (Nat.zero_le _)) hs
  | started _ _ hfits => exact fitsPeriod_of_fits ((capacityOk_iff_fits s _ _).mp hfits)
  | @modified _ n v mask b _ hv hlive _ _ hfits =>
    by_cases hpart : v.participant = true
    · rw [hpart, Bool.true_and] at hlive hfits
      have hfixed : selects mask 2 = false := by
        have hall := List.any_eq_false.mp hlive 2 (by decide)
        exact Bool.eq_false_iff.mpr hall
      by_cases hsel : (selects mask 3 || selects mask 14) = true
      · rw [hsel, Bool.true_and, Bool.not_eq_false'] at hfits
        exact fitsPeriod_of_fits ((capacityOk_iff_fits s _ _).mp hfits)
      · obtain ⟨hfloor, he⟩ := Bool.or_eq_false_iff.mp (Bool.eq_false_iff.mpr hsel)
        refine fitsPeriod_put rfl rfl (le_of_eq ?_) hs
        rw [hv]
        exact congrArg (fun c => if v.participant then c else 0) (committed_overlay b _ hfixed hfloor he)
    · refine fitsPeriod_put rfl rfl ((committedOf_defined _ ?_).trans_le (Nat.zero_le _)) hs
      exact activity_of_not_participant hpart
  | released => exact fitsPeriod_put (dropCtlAttn_services _) (dropCtlAttn_inForce _) (Nat.zero_le _) hs
  | acknowledged hv =>
    exact fitsPeriod_put (dropCtlAttn_services _) (dropCtlAttn_inForce _) (by rw [hv]; exact le_rfl) hs
  | checkCleared => exact fitsPeriod_congr (s := s) (dropCtlAttn_services _) (dropCtlAttn_inForce _) hs
  | muxSet hidle =>
    rw [fitsPeriod, committedSlots_eq, sumOver_congr (f := fun _ => 0) fun n => ?_]
    · exact Nat.zero_le _
    · change committedOf _ (s.svc n) = 0
      cases hv : s.svc n with
      | none => rfl
      | some v => simp only [committedOf, participant_eq_false_of_count hidle hv, Bool.false_eq_true, if_false]
  | cleared =>
    rw [fitsPeriod, committedSlots_eq, sumOver_congr (f := fun _ => 0) fun n => by rw [resetPart_svc]; rfl]
    exact Nat.zero_le _
  | asked | dropped | due | loaded | frameBegun | slotPulled | taken | worked | finished | admitted => exact hs

/-! ## The multiplex (R96, R98, R113) -/

/-- What a move does to the two copies of the multiplex and the slot index: nothing, a new multiplex in force, the frame
begun, or a slot pulled. -/
theorem Move.mux_cases (h : Move sc s t) :
    (t.inForce = s.inForce ∧ t.frameStruct = s.frameStruct ∧ t.adoptionPending = s.adoptionPending ∧
        t.slotIndex = s.slotIndex) ∨
      (t.inForce.inRange = true ∧ t.adoptionPending = true ∧ t.frameStruct = s.frameStruct ∧ t.slotIndex = s.slotIndex) ∨
      t = beginFrame s ∨ t = { s with slotIndex := nextSlot s.frameStruct s.slotIndex } := by
  cases h with
  | quiet _ h =>
    exact .inl ⟨(congrArg State.inForce h :), (congrArg State.frameStruct h :), (congrArg State.adoptionPending h :),
      (congrArg State.slotIndex h :)⟩
  | fault n code =>
    have h := (raiseFault_cellWork n code s).2
    exact .inl ⟨(congrArg State.inForce h :), (congrArg State.frameStruct h :), (congrArg State.adoptionPending h :),
      (congrArg State.slotIndex h :)⟩
  | check => rw [recordCheck_eq]; exact .inl ⟨rfl, rfl, rfl, rfl⟩
  | appended h =>
    obtain ⟨_, _, _, rfl⟩ := appendCell_some _ _ s t h
    exact .inl ⟨rfl, rfl, rfl, rfl⟩
  | released | acknowledged | checkCleared =>
    unfold dropCtlAttn
    split <;> exact .inl ⟨rfl, rfl, rfl, rfl⟩
  | muxSet _ hrange => exact .inr (.inl ⟨hrange, rfl, rfl, rfl⟩)
  | frameBegun => exact .inr (.inr (.inl rfl))
  | slotPulled => exact .inr (.inr (.inr rfl))
  | entry | opened | closed | asked | dropped | due | ended | started | created | modified | loaded | taken | worked
  | finished | admitted | cleared => exact .inl ⟨rfl, rfl, rfl, rfl⟩

theorem Move.keeps_capacityLaw (h : Move sc s t) (hs : s.capacityLaw) : t.capacityLaw := by
  obtain ⟨hfits, hsame⟩ := hs
  refine ⟨h.keeps_fitsPeriod hfits, fun hpending => ?_⟩
  rcases h.mux_cases with ⟨hforce, hstruct, hpend, -⟩ | ⟨-, hpend, -, -⟩ | rfl | rfl
  · rw [hforce, hstruct]
    exact hsame (hpend ▸ hpending)
  · rw [hpend] at hpending
    cases hpending
  · change newFrameStruct s = s.inForce
    unfold newFrameStruct
    split
    · rfl
    · next hno => exact hsame (Bool.eq_false_iff.mpr hno)
  · exact hsame hpending

theorem inRange_f_pos {m : Mux} (h : m.inRange = true) : 0 < m.f := by
  simp only [Mux.inRange, Bool.and_eq_true, decide_eq_true_eq] at h
  omega

theorem nextSlot_lt {m : Mux} (h : m.inRange = true) (index : Nat) : nextSlot m index < m.f := by
  have hpos := inRange_f_pos h
  unfold nextSlot
  split
  · assumption
  · exact hpos

theorem Move.keeps_frameLaw (h : Move sc s t) (hs : s.frameLaw) : t.frameLaw := by
  obtain ⟨hforce, hstruct, hslot⟩ := hs
  rcases h.mux_cases with ⟨hforce', hstruct', -, hslot'⟩ | ⟨hrange, -, hstruct', hslot'⟩ | rfl | rfl
  · rw [State.frameLaw, hforce', hstruct', hslot']
    exact ⟨hforce, hstruct, hslot⟩
  · rw [State.frameLaw, hstruct', hslot']
    exact ⟨hrange, hstruct, hslot⟩
  · have hnew : (newFrameStruct s).inRange = true := by
      unfold newFrameStruct
      split
      · exact hforce
      · exact hstruct
    exact ⟨hforce, hnew, nextSlot_lt hnew 0⟩
  · exact ⟨hforce, hstruct, nextSlot_lt hstruct _⟩

theorem capacityLaw_reset : State.reset.capacityLaw := by
  refine ⟨?_, fun _ => rfl⟩
  rw [committedSlots_eq, sumOver_congr (f := fun _ => 0) fun n => by rw [reset_svc]; rfl]
  exact Nat.zero_le _

theorem frameLaw_reset : State.reset.frameLaw := ⟨rfl, rfl, by decide⟩

/-- Settles O56, law by law and move by move. -/
theorem stepKeepsTheMultiplex : Obligations.StepKeepsTheMultiplex :=
  fun _ _ h =>
    ⟨step_keeps capacityLaw_reset (fun _ _ hmove => hmove.keeps_capacityLaw) h,
      step_keeps frameLaw_reset (fun _ _ hmove => hmove.keeps_frameLaw) h⟩

end Sys2Proof.Proofs
end

section
/-! PROOF. What each operation of the Key Unit does, as one update of the state; the expiry of a period (O41) and the other
expiries of the Key Unit (O42). -/

namespace Sys2Proof.Proofs

open Sys2Proof.Machine

variable {s t u : State} {n : Svc} {v : Service}

/-! ## Updates of one entry -/

theorem svc_putSvc_self (s : State) (n : Svc) (o : Option Service) : (s.putSvc n o).svc n = o := by
  rw [State.svc_putSvc, if_pos rfl]

theorem modKeys_some (hv : s.svc n = some v) (f : KeyCtx → KeyCtx) :
    s.modKeys n f = s.putSvc n (some { v with keys := f v.keys }) :=
  State.modSvc_some s n _ v hv

theorem putSvc_self (hv : s.svc n = some v) : s.putSvc n (some v) = s := by
  exact (State.modSvc_some s n id v hv).symm.trans (modSvc_id n s)

theorem asked_putSvc (s : State) (m : Svc) (ph : Phase) (urgent : Bool) (o : Option Service) :
    (s.putSvc n o).asked m ph urgent = (s.asked m ph urgent).putSvc n o := rfl

theorem askedIf_pos {due : Prop} [Decidable due] (h : due) (m : Svc) (ph : Phase) :
    s.askedIf due m ph = s.asked m ph false := if_pos h

theorem askedIf_neg {due : Prop} [Decidable due] (h : ¬ due) (m : Svc) (ph : Phase) : s.askedIf due m ph = s :=
  if_neg h

theorem askedIf_congr {p q : Prop} [Decidable p] [Decidable q] (h : p ↔ q) (m : Svc) (ph : Phase) :
    s.askedIf p m ph = s.askedIf q m ph := if_congr h rfl rfl

theorem askedIf_svc {due : Prop} [Decidable due] (m k : Svc) (ph : Phase) : (s.askedIf due m ph).svc k = s.svc k := by
  unfold State.askedIf
  split <;> rfl

theorem askedIf_putSvc {due : Prop} [Decidable due] (m k : Svc) (ph : Phase) (o : Option Service) :
    (s.putSvc k o).askedIf due m ph = (s.askedIf due m ph).putSvc k o := by
  unfold State.askedIf
  split <;> rfl

/-! ## Requests and the timer (R134, R148) -/

/-- A request for the wanted slot, if it is empty, with the mark (R148). -/
theorem requestWanted_eq (hv : s.svc n = some v) :
    requestWanted n s = (s.askedIf (v.keys.slot v.keys.wantedPhase = none) n v.keys.wantedPhase).putSvc n (some
      { v with keys := { v.keys with
        requestMark := v.keys.requestMark || decide (v.keys.slot v.keys.wantedPhase = none) } }) := by
  rw [requestWanted, hv]
  dsimp only
  by_cases hnone : v.keys.slot v.keys.wantedPhase = none
  · rw [if_pos (Option.isNone_iff_eq_none.mpr hnone), askedIf_pos hnone, modKeys_some hv, addRequest_eq, asked_putSvc]
    simp [hnone]
  · rw [if_neg (fun h => hnone (Option.isNone_iff_eq_none.mp h)), askedIf_neg hnone]
    simp only [hnone, decide_false, Bool.or_false]
    exact (putSvc_self hv).symm

/-- The reload test asks at once for an empty wanted slot when the lead is at least the whole period (R148). -/
abbrev Service.asksAtLoad (v : Service) : Prop :=
  v.cfg.p * v.cfg.c ≤ v.cfg.lead ∧ v.keys.slot v.keys.wantedPhase = none

/-- The period timer loaded (R134, R148). -/
theorem loadTimer_eq (hv : s.svc n = some v) :
    loadTimer n s = (s.askedIf (Service.asksAtLoad v) n v.keys.wantedPhase).putSvc n (some
      { v with keys := { v.keys with
        timer := { prescale := v.cfg.p, count := v.cfg.c }, requestMark := decide (Service.asksAtLoad v) } }) := by
  rw [loadTimer, hv]
  dsimp only
  rw [modKeys_some hv]
  by_cases hlead : v.cfg.p * v.cfg.c ≤ v.cfg.lead
  · set w : Service := { v with keys := { v.keys with
      timer := { prescale := v.cfg.p, count := v.cfg.c }, requestMark := false } } with hw
    have hasks : w.keys.slot w.keys.wantedPhase = none ↔ Service.asksAtLoad v :=
      ⟨fun h => ⟨hlead, h⟩, fun h => h.2⟩
    rw [if_pos hlead, requestWanted_eq (svc_putSvc_self s n (some w)), askedIf_congr hasks, askedIf_putSvc, putSvc_putSvc,
      decide_eq_decide.mpr hasks, show w.keys.requestMark = false from rfl, Bool.false_or]
    rfl
  · have hnot : ¬ Service.asksAtLoad v := fun h => hlead h.1
    rw [if_neg hlead, askedIf_neg hnot, decide_eq_false hnot]

/-- The lead test of a timer that stepped without expiring asks for an empty wanted slot, once (R148). -/
abbrev Service.asksAtStep (v : Service) : Prop :=
  v.keys.timer.remaining v.cfg.p = v.cfg.lead ∧ v.keys.requestMark = false ∧ v.keys.slot v.keys.wantedPhase = none

theorem leadTest_eq (hv : s.svc n = some v) :
    leadTest n s = (s.askedIf (Service.asksAtStep v) n v.keys.wantedPhase).putSvc n (some
      { v with keys := { v.keys with requestMark := v.keys.requestMark || decide (Service.asksAtStep v) } }) := by
  rw [leadTest, hv]
  dsimp only
  by_cases hlead : v.keys.timer.remaining v.cfg.p = v.cfg.lead ∧ v.keys.requestMark = false
  · have hasks : v.keys.slot v.keys.wantedPhase = none ↔ Service.asksAtStep v :=
      ⟨fun h => ⟨hlead.1, hlead.2, h⟩, fun h => h.2.2⟩
    rw [if_pos hlead, requestWanted_eq hv, askedIf_congr hasks, decide_eq_decide.mpr hasks]
  · have hnot : ¬ Service.asksAtStep v := fun h => hlead ⟨h.1, h.2.1⟩
    rw [if_neg hlead, askedIf_neg hnot, decide_eq_false hnot, Bool.or_false]
    exact (putSvc_self hv).symm

/-! ## Changeover, BLACKOUT and back (R137, R143, R144) -/

/-- Requests of a service taken out of the set (R149). -/
def served (s : State) (n : Svc) : State :=
  { s with
    requests := s.requests.filter fun r => r.service != n
    keyAttn := !(s.requests.filter fun r => r.service != n).isEmpty }

theorem dropServiceRequests_eq (n : Svc) (s : State) : dropServiceRequests n s = served s n := rfl

theorem slotReady_iff (nmin : Nat) (x : Option KeySlot) : slotReady nmin x = true ↔ ∃ k ∈ x, nmin ≤ k.sent := by
  cases x <;> simp [slotReady]

theorem ready_iff (v : Service) : v.ready = true ↔ ∃ x ∈ v.keys.next, v.cfg.nmin ≤ x.sent := slotReady_iff _ _

theorem timed_iff (v : Service) :
    v.timed = true ↔ v.cfg.periodMode = .repeating ∨ (v.cfg.periodMode = .clearWindow ∧ v.keys.windowSpent = true) := by
  unfold Service.timed
  cases v.cfg.periodMode <;> simp

/-- The keys after a changeover and, under a timer, its load (R134, R137, R148). -/
def changedKeys (v : Service) (frame : Word) : KeyCtx :=
  { turnedKeys v frame with
    timer := if v.timed then { prescale := v.cfg.p, count := v.cfg.c } else v.keys.timer
    requestMark := if v.timed then decide (v.timed = true ∧ v.cfg.p * v.cfg.c ≤ v.cfg.lead) else v.keys.requestMark }

theorem turnedKeys_next (v : Service) (frame : Word) : (turnedKeys v frame).slot v.keys.phase = none := by
  cases hp : v.keys.phase <;> simp [turnedKeys, KeyCtx.slot, KeyCtx.setSlot, hp]

theorem turnedKeys_wantedPhase (v : Service) (frame : Word) : (turnedKeys v frame).wantedPhase = v.keys.phase := by
  simp [turnedKeys, KeyCtx.wantedPhase]

theorem changedKeys_of_timed {v : Service} (h : v.timed = true) (frame : Word) :
    changedKeys v frame = { turnedKeys v frame with
      timer := { prescale := v.cfg.p, count := v.cfg.c }
      requestMark := decide (v.timed = true ∧ v.cfg.p * v.cfg.c ≤ v.cfg.lead) } := by
  rw [changedKeys, if_pos h, if_pos h]

theorem changedKeys_of_not_timed {v : Service} (h : ¬ v.timed = true) (frame : Word) :
    changedKeys v frame = turnedKeys v frame := by
  rw [changedKeys, if_neg h, if_neg h]
  cases hp : v.keys.phase <;> simp [turnedKeys, KeyCtx.setSlot, hp]

theorem changeover_eq (hv : s.svc n = some v) :
    changeover n s = ((served s n).askedIf (v.timed = true ∧ v.cfg.p * v.cfg.c ≤ v.cfg.lead) n v.keys.phase).putSvc n (some
      { v with cellSeq := 0, keys := changedKeys v s.frameNumber }) := by
  have hturn : (s.modSvc n fun v => { v with cellSeq := 0, keys := turnedKeys v s.frameNumber })
      = s.putSvc n (some { v with cellSeq := 0, keys := turnedKeys v s.frameNumber }) :=
    State.modSvc_some s n _ v hv
  rw [changeover, hv]
  dsimp only
  change (if v.timed = true then loadTimer n (served (s.modSvc n fun v =>
    { v with cellSeq := 0, keys := turnedKeys v s.frameNumber }) n)
    else served (s.modSvc n fun v => { v with cellSeq := 0, keys := turnedKeys v s.frameNumber }) n) = _
  rw [hturn, show ∀ o, served (s.putSvc n o) n = (served s n).putSvc n o from fun _ => rfl]
  by_cases htimed : v.timed = true
  · set w : Service := { v with cellSeq := 0, keys := turnedKeys v s.frameNumber } with hw
    have hwanted : w.keys.wantedPhase = v.keys.phase := turnedKeys_wantedPhase v _
    have hasks : Service.asksAtLoad w ↔ (v.timed = true ∧ v.cfg.p * v.cfg.c ≤ v.cfg.lead) := by
      rw [Service.asksAtLoad, hwanted, show w.keys.slot v.keys.phase = none from turnedKeys_next v _]
      simp [htimed, hw]
    rw [if_pos htimed, loadTimer_eq (svc_putSvc_self _ n (some w)), askedIf_congr hasks, askedIf_putSvc, putSvc_putSvc,
      decide_eq_decide.mpr hasks, hwanted, changedKeys_of_timed htimed]
  · have hnot : ¬ (v.timed = true ∧ v.cfg.p * v.cfg.c ≤ v.cfg.lead) := fun h => htimed h.1
    rw [if_neg htimed, askedIf_neg hnot, changedKeys_of_not_timed htimed]

/-- A fault raised for an entry just replaced. -/
theorem raiseFault_putSvc (code : FaultCode) (s : State) (n : Svc) (v : Service) :
    raiseFault n code (s.putSvc n (some v)) =
      ({ s with ctlAttn := s.ctlAttn || v.faults.entries.isEmpty } : State).putSvc n
        (some { v with faults := v.faults.raise code s.frameNumber }) := by
  rw [raiseFault_some n code _ v (svc_putSvc_self s n _)]
  exact putSvc_putSvc n _ _ ({ s with ctlAttn := s.ctlAttn || v.faults.entries.isEmpty } : State)

theorem requestCurrent_putSvc (s : State) (n : Svc) (v : Service) :
    requestCurrent n (s.putSvc n (some v)) = (s.asked n v.keys.phase true).putSvc n (some v) := by
  rw [requestCurrent, svc_putSvc_self]
  exact addRequest_eq n v.keys.phase true _

/-- Entry to BLACKOUT, with the fault and the urgent request (R143, R148). -/
theorem enterBlackout_eq (hv : s.svc n = some v) :
    enterBlackout n s = (({ s with ctlAttn := s.ctlAttn || v.faults.entries.isEmpty } : State).asked n v.keys.phase
      true).putSvc n (some
        { v with
          keys := { v.keys with prot := some .blackout, deferral := 0 }
          faults := v.faults.raise .blackout s.frameNumber }) := by
  rw [enterBlackout, modKeys_some hv, raiseFault_putSvc, requestCurrent_putSvc]

/-- Exit from BLACKOUT (R144). -/
theorem exitBlackout_eq (hv : s.svc n = some v) :
    exitBlackout n s =
      (s.askedIf (v.cfg.periodMode ≠ .hold ∧ v.cfg.p * v.cfg.c ≤ v.cfg.lead ∧ v.keys.next = none) n
        v.keys.phase.other).putSvc n (some
          { v with
            cellSeq := 0
            keys :=
              if v.cfg.periodMode = .hold then { v.keys with prot := some .scrambled }
              else
                { v.keys with
                  prot := some .scrambled
                  timer := { prescale := v.cfg.p, count := v.cfg.c }
                  windowSpent := true
                  requestMark := decide
                    (v.cfg.periodMode ≠ .hold ∧ v.cfg.p * v.cfg.c ≤ v.cfg.lead ∧ v.keys.next = none) } }) := by
  rw [exitBlackout, hv]
  dsimp only
  rw [State.modSvc_some s n _ v hv]
  by_cases hhold : v.cfg.periodMode = .hold
  · rw [if_pos hhold, if_pos hhold, askedIf_neg fun h => h.1 hhold]
  · set w : Service :=
      { v with cellSeq := 0, keys := { v.keys with prot := some .scrambled, windowSpent := true } } with hw
    have hasks : Service.asksAtLoad w ↔
        (v.cfg.periodMode ≠ .hold ∧ v.cfg.p * v.cfg.c ≤ v.cfg.lead ∧ v.keys.next = none) :=
      ⟨fun h => ⟨hhold, h⟩, fun h => h.2⟩
    rw [if_neg hhold, if_neg hhold, modKeys_some (svc_putSvc_self _ _ _), putSvc_putSvc]
    change loadTimer n (s.putSvc n (some w)) = _
    rw [loadTimer_eq (svc_putSvc_self s n (some w)), askedIf_congr hasks, askedIf_putSvc, putSvc_putSvc,
      decide_eq_decide.mpr hasks]
    rfl

/-! ## Expiries (R136 to R139, R142, R145) -/

/-- An expiry that is outstanding is taken out of turn by its own row. -/
theorem exec_expiry {c : Instr} {w : FrameWork} (hexp : expiryOf c = some w) (hrst : s.rstAsserted = false)
    (hw : w ∈ s.frameDue) : exec c s = .next (takeWork w { s with frameDue := s.frameDue.erase w }) := by
  have htake (hnext : exec c s = .next (expire w s)) :
      exec c s = .next (takeWork w { s with frameDue := s.frameDue.erase w }) := by
    rw [hnext, expire, if_neg (by rw [hrst]; exact Bool.false_ne_true), takeOutstanding, if_pos hw]
  cases c <;> cases hexp <;> exact htake rfl

theorem periodExpiry_of_ready (hv : s.svc n = some v) (h : v.ready = true) : periodExpiry n s = changeover n s := by
  rw [periodExpiry, hv]
  exact if_pos h

theorem periodExpiry_of_not_ready (hv : s.svc n = some v) (h : ¬ v.ready = true) :
    periodExpiry n s = (if v.keys.next = none then s.asked n v.keys.phase.other true else s).putSvc n (some
      { v with keys := { v.keys with prot := some .deferred, deferral := 0 } }) := by
  rw [periodExpiry, hv]
  dsimp only
  rw [if_neg h, modKeys_some hv, addRequest_eq, asked_putSvc]
  by_cases hnone : v.keys.next = none
  · rw [if_pos (Option.isNone_iff_eq_none.mpr hnone), if_pos hnone]
  · rw [if_neg (fun h => hnone (Option.isNone_iff_eq_none.mp h)), if_neg hnone]

/-- Settles O41, by whether the next slot is ready. -/
theorem periodExpiryChangesOverOrDefers : Obligations.PeriodExpiryChangesOverOrDefers := by
  intro s n v hrst hdue hv ready timed asks left taken
  have hexec : exec (.periodExpiry n) s = .next (periodExpiry n taken) := exec_expiry rfl hrst hdue
  have hv' : taken.svc n = some v := hv
  refine ⟨fun hready => ?ready, fun hnot => ?unready⟩
  case ready =>
    have hasks : (v.timed = true ∧ v.cfg.p * v.cfg.c ≤ v.cfg.lead) ↔ asks := and_congr_left' (timed_iff v)
    have hif {α : Type} (a b : α) : (if v.timed = true then a else b) = if timed then a else b :=
      if_congr (timed_iff v) rfl rfl
    rw [hexec, periodExpiry_of_ready hv' ((ready_iff v).mpr hready), changeover_eq hv', askedIf_congr hasks, changedKeys,
      decide_eq_decide.mpr hasks, hif, hif]
    rfl
  case unready => rw [hexec, periodExpiry_of_not_ready hv' fun h => hnot ((ready_iff v).mp h)]

theorem windowExpiry_of_ready (hv : s.svc n = some v) (h : slotReady v.cfg.nmin v.keys.current = true) :
    windowExpiry n s =
      (s.askedIf (v.cfg.p * v.cfg.c ≤ v.cfg.lead ∧ v.keys.next = none) n v.keys.phase.other).putSvc n (some
        { v with keys := { v.keys with
          prot := some .scrambled
          windowSpent := true
          timer := { prescale := v.cfg.p, count := v.cfg.c }
          requestMark := decide (v.cfg.p * v.cfg.c ≤ v.cfg.lead ∧ v.keys.next = none) } }) := by
  rw [windowExpiry, hv]
  dsimp only
  rw [if_pos h, modKeys_some hv, loadTimer_eq (svc_putSvc_self s n _), askedIf_putSvc, putSvc_putSvc]
  rfl

/-- KEY_LATE and then BLACKOUT (R142, R143). -/
theorem windowExpiry_of_not_ready (hv : s.svc n = some v) (h : ¬ slotReady v.cfg.nmin v.keys.current = true) :
    windowExpiry n s = (({ s with ctlAttn := s.ctlAttn || v.faults.entries.isEmpty } : State).asked n v.keys.phase
      true).putSvc n (some
        { v with
          keys := { v.keys with prot := some .blackout, deferral := 0 }
          faults := (v.faults.raise .keyLate s.frameNumber).raise .blackout s.frameNumber }) := by
  have hheld (c : Bool) : (c || (v.faults.raise .keyLate s.frameNumber).entries.isEmpty) = c := by
    rw [List.isEmpty_eq_false_iff.mpr (raise_entries_ne_nil _ _ _), Bool.or_false]
  rw [windowExpiry, hv]
  dsimp only
  rw [if_neg h, raiseFault_some n _ s v hv, enterBlackout_eq (svc_putSvc_self _ n _)]
  dsimp only [State.putSvc_ctlAttn, State.putSvc_frameNumber]
  rw [hheld]
  exact putSvc_putSvc n _ _
    (({ s with ctlAttn := s.ctlAttn || v.faults.entries.isEmpty } : State).asked n v.keys.phase true)

theorem deferralExpiry_eq (hv : s.svc n = some v) :
    deferralExpiry n s = ({ s with ctlAttn := s.ctlAttn || v.faults.entries.isEmpty } : State).putSvc n (some
      { v with keys := { v.keys with prot := some .late }, faults := v.faults.raise .keyLate s.frameNumber }) := by
  rw [deferralExpiry, modKeys_some hv, raiseFault_putSvc]

theorem countdownExpiry_eq (hv : s.svc n = some v) :
    countdownExpiry n s =
      ({ s with dueList := if n ∈ s.dueList then s.dueList else s.dueList ++ [n] } : State).putSvc n (some
        { v with keys := { v.keys with countdown := v.cfg.e } }) := by
  rw [countdownExpiry, State.modSvc_some s n _ v hv, submitEntitlement]
  by_cases hn : n ∈ s.dueList
  · rw [if_pos hn]
    exact if_pos hn
  · rw [if_neg hn]
    exact if_neg hn

/-- Settles O42, one expiry at a time. -/
theorem keyExpiriesActOnTheService : Obligations.KeyExpiriesActOnTheService := by
  intro s n v hrst hv
  refine ⟨fun hdue => ?window, fun hdue => ?countdown, fun hdue => ?deferral⟩
  case window =>
    intro taken asks
    have hexec : exec (.windowEnd n) s = .next (windowExpiry n taken) := exec_expiry rfl hrst hdue
    have hv' : taken.svc n = some v := hv
    refine ⟨fun hready => ?ready, fun hnot => ?late⟩
    case ready => rw [hexec, windowExpiry_of_ready hv' ((slotReady_iff _ _).mpr hready)]
    case late => rw [hexec, windowExpiry_of_not_ready hv' fun h => hnot ((slotReady_iff _ _).mp h)]
  case countdown =>
    exact (exec_expiry rfl hrst hdue).trans (congrArg _ (countdownExpiry_eq (s := { s with
      frameDue := s.frameDue.erase (.countdown n) }) hv))
  case deferral =>
    exact (exec_expiry rfl hrst hdue).trans (congrArg _ (deferralExpiry_eq (s := { s with
      frameDue := s.frameDue.erase (.deferral n) }) hv))

end Sys2Proof.Proofs
end

section
/-! PROOF. The work of a frame start, service by service: what each tick does to its service, and that it leaves the view
of every other service alone. -/

namespace Sys2Proof.Proofs

open Sys2Proof.Machine

variable {s t u : State} {n : Svc} {v : Service}

/-! ## The view of one service -/

/-- The service that outstanding work is about; a period start is about none. -/
def workService : FrameWork → Option Svc
  | .silence n | .period n | .window n | .countdown n | .deferral n => some n
  | .allocate => none

/-- The requests of a service. -/
def requestsOf (n : Svc) (s : State) : List KeyRequest := s.requests.filter fun r => r.service == n

/-- The outstanding work of a service. -/
def dueOf (n : Svc) (s : State) : List FrameWork := s.frameDue.filter fun w => workService w == some n

/-- What a frame start reads and writes for one service. -/
structure ServiceView where
  entry : Option Service
  requests : List KeyRequest
  due : List FrameWork
  frame : Word

def viewOf (n : Svc) (s : State) : ServiceView :=
  { entry := s.svc n, requests := requestsOf n s, due := dueOf n s, frame := s.frameNumber }

/-- Only what a frame start's ticks work on differs between two states. -/
def sameBesidesTicks (s t : State) : Prop :=
  t = { s with services := t.services, requests := t.requests, keyAttn := t.keyAttn, frameDue := t.frameDue }

theorem sameBesidesTicks.trans (h : sameBesidesTicks s t) (k : sameBesidesTicks t u) : sameBesidesTicks s u := by
  unfold sameBesidesTicks at *
  rw [k, h]

/-- Work on one service: the views of the others stay, and a request of theirs keeps KEY_ATTN asserted. -/
structure OnlyAt (n : Svc) (s t : State) : Prop where
  rest : sameBesidesTicks s t
  views : ∀ m, m ≠ n → viewOf m t = viewOf m s
  attn : ∀ m, m ≠ n → s.keyAttn = true → requestsOf m s ≠ [] → t.keyAttn = true

theorem OnlyAt.refl (n : Svc) (s : State) : OnlyAt n s s := ⟨rfl, fun _ _ => rfl, fun _ _ h _ => h⟩

theorem OnlyAt.trans (h : OnlyAt n s t) (k : OnlyAt n t u) : OnlyAt n s u := by
  refine ⟨h.rest.trans k.rest, fun m hm => (k.views m hm).trans (h.views m hm), fun m hm hattn hreq => ?_⟩
  refine k.attn m hm (h.attn m hm hattn hreq) ?_
  rwa [show requestsOf m t = requestsOf m s from congrArg ServiceView.requests (h.views m hm)]

theorem OnlyAt.putSvc (s : State) (n : Svc) (o : Option Service) : OnlyAt n s (s.putSvc n o) := by
  refine ⟨rfl, fun m hm => ?_, fun _ _ h _ => h⟩
  simp only [viewOf, State.svc_putSvc, if_neg hm]
  rfl

/-- Work noted as outstanding. -/
def noted (s : State) (l : List FrameWork) : State := { s with frameDue := s.frameDue ++ l }

theorem noted_nil (s : State) : noted s [] = s := by
  simp [noted]

theorem noteWork_eq (w : FrameWork) (s : State) : noteWork w s = noted s [w] := rfl

theorem noted_noted (s : State) (l l' : List FrameWork) : noted (noted s l) l' = noted s (l ++ l') := by
  simp [noted]

theorem dueOf_noted (m : Svc) (s : State) (l : List FrameWork) :
    dueOf m (noted s l) = dueOf m s ++ l.filter fun w => workService w == some m := by
  simp [dueOf, noted]

theorem OnlyAt.noted {l : List FrameWork} (s : State) (h : ∀ w ∈ l, workService w = some n) : OnlyAt n s (noted s l) := by
  refine ⟨rfl, fun m hm => ?_, fun _ _ h _ => h⟩
  have hnone : (l.filter fun w => workService w == some m) = [] := by
    refine List.filter_eq_nil_iff.mpr fun w hw => ?_
    rw [h w hw, beq_iff_eq]
    exact fun he => hm (Option.some.inj he).symm
  simp only [viewOf, dueOf_noted, hnone, List.append_nil]
  rfl

theorem OnlyAt.served (s : State) (n : Svc) : OnlyAt n s (served s n) := by
  have hreq (m : Svc) (hm : m ≠ n) : requestsOf m (Proofs.served s n) = requestsOf m s := by
    simp only [requestsOf, Proofs.served, List.filter_filter]
    refine List.filter_congr fun r _ => ?_
    by_cases hr : r.service = m <;> simp [hr, hm]
  refine ⟨rfl, fun m hm => ?_, fun m hm _ hne => ?_⟩
  · simp only [viewOf, hreq m hm]
    rfl
  · rw [← hreq m hm] at hne
    have hleft : (Proofs.served s n).requests ≠ [] := fun he => hne (by rw [requestsOf, he]; rfl)
    simpa [Proofs.served] using hleft

/-- An addition to the request set, seen from one service. -/
theorem insertRequest_filter (set : List KeyRequest) (r : KeyRequest) (m : Svc) :
    (insertRequest set r).filter (fun e => e.service == m) =
      if r.service = m then insertRequest (set.filter fun e => e.service == m) r
      else set.filter fun e => e.service == m := by
  have hkeeps (e : KeyRequest) : (if e.service = r.service then
      { e with phase := r.phase, urgent := e.urgent || r.urgent } else e).service = e.service := by
    split <;> rfl
  by_cases hm : r.service = m
  · subst hm
    rw [if_pos rfl]
    unfold insertRequest
    have hany : ((set.filter fun e => e.service == r.service).any fun e => e.service == r.service)
        = set.any fun e => e.service == r.service := by
      simp [List.any_filter]
    rw [hany]
    split
    · rw [List.filter_map]
      simp only [Function.comp_def, hkeeps]
    · simp
  · rw [if_neg hm]
    unfold insertRequest
    split
    · rw [List.filter_map]
      simp only [Function.comp_def, hkeeps]
      refine (List.map_congr_left fun e he => ?_).trans (List.map_id _)
      have hse : e.service = m := by simpa using (List.mem_filter.mp he).2
      rw [if_neg (by rw [hse]; exact Ne.symm hm)]
      rfl
    · simp [hm]

theorem requestsOf_asked (m n : Svc) (ph : Phase) (urgent : Bool) (s : State) :
    requestsOf m (s.asked n ph urgent) =
      if n = m then insertRequest (requestsOf m s) { service := n, phase := ph, urgent := urgent } else requestsOf m s := by
  rw [← addRequest_eq]
  exact insertRequest_filter s.requests { service := n, phase := ph, urgent := urgent } m

theorem OnlyAt.asked (s : State) (n : Svc) (ph : Phase) (urgent : Bool) : OnlyAt n s (s.asked n ph urgent) := by
  refine ⟨rfl, fun m hm => ?_, fun _ _ _ _ => rfl⟩
  simp only [viewOf, requestsOf_asked, if_neg (Ne.symm hm)]
  rfl

theorem OnlyAt.askedIf (s : State) (due : Prop) [Decidable due] (n : Svc) (ph : Phase) :
    OnlyAt n s (s.askedIf due n ph) := by
  unfold State.askedIf
  split
  · exact .asked s n ph false
  · exact .refl n s

/-! ## The silence counter (R35) -/

/-- A service after its silence counter has been worked at a frame start (R35). -/
def silenced (v : Service) : Service :=
  if (v.activity = .running ∨ v.activity = .draining) ∧ v.ingest.expired = false then
    if v.cfg.z ≤ v.ingest.silence + 1 then { v with ingest := { v.ingest with silence := v.cfg.z, expired := true } }
    else { v with ingest := { v.ingest with silence := v.ingest.silence + 1 } }
  else v

/-- The expiry that it finds. -/
def silenceDue (n : Svc) (v : Service) : List FrameWork :=
  if ((v.activity = .running ∨ v.activity = .draining) ∧ v.ingest.expired = false) ∧ v.cfg.z ≤ v.ingest.silence + 1 then
    [.silence n]
  else []

theorem silenceTick_none (h : s.svc n = none) : silenceTick n s = s := by
  rw [silenceTick, h]

theorem silenceTick_eq (hv : s.svc n = some v) :
    silenceTick n s = (noted s (silenceDue n v)).putSvc n (some (silenced v)) := by
  rw [silenceTick, hv]
  dsimp only
  by_cases hcounts : (v.activity = .running ∨ v.activity = .draining) ∧ v.ingest.expired = false
  · rw [if_pos hcounts, silenced, if_pos hcounts]
    by_cases hends : v.cfg.z ≤ v.ingest.silence + 1
    · rw [if_pos hends, if_pos hends, silenceDue, if_pos ⟨hcounts, hends⟩, State.modSvc_some s n _ v hv]
      rfl
    · rw [if_neg hends, if_neg hends, silenceDue, if_neg fun h => hends h.2, State.modSvc_some s n _ v hv, noted_nil]
  · rw [if_neg hcounts, silenced, if_neg hcounts, silenceDue, if_neg fun h => hcounts h.1, noted_nil, putSvc_self hv]

theorem silenceTick_onlyAt (n : Svc) (s : State) : OnlyAt n s (silenceTick n s) := by
  cases hv : s.svc n with
  | none => rw [silenceTick_none hv]; exact .refl n s
  | some v =>
    rw [silenceTick_eq hv]
    refine (OnlyAt.noted s fun w hw => ?_).trans (.putSvc _ n _)
    unfold silenceDue at hw
    split at hw
    · rw [List.mem_singleton.mp hw]
      rfl
    · cases hw

/-! ## The Key Unit's work (R134, R135) -/

/-- The keys of a service after its entitlement countdown has been worked (R145). -/
def countedKeys (v : Service) : KeyCtx :=
  { v.keys with countdown := if v.keys.hasKey then v.keys.countdown - 1 else v.keys.countdown }

def countdownDue (n : Svc) (v : Service) : List FrameWork :=
  if v.keys.hasKey = true ∧ v.keys.countdown ≤ 1 then [.countdown n] else []

/-- A service after its countdown. -/
abbrev counted (v : Service) : Service := { v with keys := countedKeys v }

theorem countdownTick_eq (hv : s.svc n = some v) :
    countdownTick n s = (noted s (countdownDue n v)).putSvc n (some (counted v)) := by
  rw [countdownTick, hv]
  dsimp only
  by_cases hkey : v.keys.hasKey = true
  · rw [if_pos hkey, modKeys_some hv, countdownDue, counted, countedKeys, if_pos hkey]
    by_cases hends : v.keys.countdown ≤ 1
    · rw [if_pos hends, if_pos ⟨hkey, hends⟩]
      rfl
    · rw [if_neg hends, if_neg fun h => hends h.2, noted_nil]
  · rw [if_neg hkey, countdownDue, if_neg fun h => hkey h.1, noted_nil, counted, countedKeys, if_neg hkey, putSvc_self hv]

/-- A timer that steps without expiring asks for the wanted slot (R148). -/
abbrev asksAtTick (v : Service) : Prop :=
  (v.keys.timer.step v.cfg.p).count ≠ 0 ∧ (v.keys.timer.step v.cfg.p).remaining v.cfg.p = v.cfg.lead ∧
    v.keys.requestMark = false ∧ v.keys.slot v.keys.wantedPhase = none

/-- The keys of a service after its period timer has stepped (R134, R148). -/
def steppedKeys (v : Service) : KeyCtx :=
  { v.keys with
    timer := v.keys.timer.step v.cfg.p
    requestMark := v.keys.requestMark || decide (asksAtTick v) }

theorem timerTick_eq (hv : s.svc n = some v) (w : FrameWork) :
    timerTick w n s =
      (noted (s.askedIf (asksAtTick v) n v.keys.wantedPhase)
        (if (v.keys.timer.step v.cfg.p).count = 0 then [w] else [])).putSvc n (some { v with keys := steppedKeys v }) := by
  rw [timerTick, hv]
  dsimp only
  rw [modKeys_some hv, steppedKeys]
  by_cases hzero : (v.keys.timer.step v.cfg.p).count = 0
  · have hnot : ¬ asksAtTick v := fun h => h.1 hzero
    rw [if_pos hzero, if_pos hzero, askedIf_neg hnot, decide_eq_false hnot, Bool.or_false]
    rfl
  · set x : Service := { v with keys := { v.keys with timer := v.keys.timer.step v.cfg.p } } with hx
    have hasks : Service.asksAtStep x ↔ asksAtTick v := ⟨fun h => ⟨hzero, h⟩, fun h => h.2⟩
    rw [if_neg hzero, if_neg hzero, noted_nil, leadTest_eq (svc_putSvc_self s n (some x)), askedIf_congr hasks,
      askedIf_putSvc, putSvc_putSvc, decide_eq_decide.mpr hasks]
    rfl

/-- The Key Unit's work concerns SCRAMBLED participants (R135). -/
abbrev keyed (v : Service) : Prop := v.participant = true ∧ v.cfg.protection = .scrambled

theorem keyTick_none (h : s.svc n = none) : keyTick n s = s := by
  rw [keyTick, h]

theorem keyTick_of_not_keyed (hv : s.svc n = some v) (h : ¬ keyed v) : keyTick n s = s := by
  rw [keyTick, hv]
  exact if_neg h

theorem keyTick_of_keyed (hv : s.svc n = some v) (h : keyed v) :
    keyTick n s = periodWork n v ((noted s (countdownDue n v)).putSvc n (some (counted v))) := by
  rw [keyTick, hv]
  dsimp only
  rw [if_pos h, countdownTick_eq hv]

/-- A service whose period work is the step of its timer: WINDOW, and SCRAMBLED under a timer. -/
abbrev steps (v : Service) : Prop := v.keys.prot = some .window ∨ (v.keys.prot = some .scrambled ∧ v.timed = true)

/-- A service whose period work is a changeover once it is ready: DEFERRED, LATE, and SCRAMBLED without a timer. -/
abbrev waits (v : Service) : Prop :=
  v.keys.prot = some .deferred ∨ v.keys.prot = some .late ∨ (v.keys.prot = some .scrambled ∧ ¬ v.timed = true)

/-- The expiry of a timer. -/
def timerExpiry (n : Svc) (v : Service) : FrameWork := if v.keys.prot = some .window then .window n else .period n

theorem keyTick_of_steps (hv : s.svc n = some v) (hkeyed : keyed v) (h : steps v) :
    keyTick n s =
      (noted ((noted s (countdownDue n v)).askedIf (asksAtTick (counted v)) n v.keys.wantedPhase)
        (if (v.keys.timer.step v.cfg.p).count = 0 then [timerExpiry n v] else [])).putSvc n (some
          { v with keys := steppedKeys (counted v) }) := by
  have htick (w : FrameWork) : timerTick w n ((noted s (countdownDue n v)).putSvc n (some (counted v))) =
      (noted ((noted s (countdownDue n v)).askedIf (asksAtTick (counted v)) n v.keys.wantedPhase)
        (if (v.keys.timer.step v.cfg.p).count = 0 then [w] else [])).putSvc n (some
          { v with keys := steppedKeys (counted v) }) := by
    rw [timerTick_eq (svc_putSvc_self _ n _), askedIf_putSvc,
      show ∀ y o l, noted (State.putSvc y n o) l = (noted y l).putSvc n o from fun _ _ _ => rfl, putSvc_putSvc]
    rfl
  rw [keyTick_of_keyed hv hkeyed, periodWork]
  rcases h with h | ⟨h, htimed⟩ <;> rw [h] <;> dsimp only
  · rw [htick, show timerExpiry n v = .window n from if_pos h]
  · rw [if_pos htimed, htick, show timerExpiry n v = .period n from if_neg (by rw [h]; decide)]

theorem keyTick_of_ready (hv : s.svc n = some v) (hkeyed : keyed v) (h : waits v) (hready : v.ready = true) :
    keyTick n s =
      ((served (noted s (countdownDue n v)) n).askedIf (v.timed = true ∧ v.cfg.p * v.cfg.c ≤ v.cfg.lead) n
        v.keys.phase).putSvc n (some { v with cellSeq := 0, keys := changedKeys (counted v) s.frameNumber }) := by
  set x := (noted s (countdownDue n v)).putSvc n (some (counted v)) with hx
  have hsvc : x.svc n = some (counted v) := svc_putSvc_self _ n _
  have hover : changeover n x = ((served (noted s (countdownDue n v)) n).askedIf
      (v.timed = true ∧ v.cfg.p * v.cfg.c ≤ v.cfg.lead) n v.keys.phase).putSvc n (some
        { v with cellSeq := 0, keys := changedKeys (counted v) s.frameNumber }) := by
    rw [changeover_eq hsvc, hx, show ∀ y o, served (State.putSvc y n o) n = (served y n).putSvc n o from fun _ _ => rfl,
      askedIf_putSvc, putSvc_putSvc]
    rfl
  have hif : changeoverIfReady n x = changeover n x := by
    rw [changeoverIfReady, hsvc]
    exact if_pos hready
  have hdeferred : deferredTick n x = changeover n x := by
    rw [deferredTick, hsvc]
    exact if_pos hready
  rw [keyTick_of_keyed hv hkeyed, periodWork, ← hx, ← hover]
  rcases h with h | h | ⟨h, htimed⟩ <;> rw [h] <;> dsimp only
  · exact hdeferred
  · exact hif
  · rw [if_neg htimed, hif]

/-- The keys of an unready service that waits: DEFERRED counts its deferral (R139). -/
def waitedKeys (v : Service) : KeyCtx :=
  { v.keys with deferral := if v.keys.prot = some .deferred then v.keys.deferral + 1 else v.keys.deferral }

def deferralDue (n : Svc) (v : Service) : List FrameWork :=
  if v.keys.prot = some .deferred ∧ v.cfg.dmax ≤ v.keys.deferral + 1 then [.deferral n] else []

theorem keyTick_of_not_ready (hv : s.svc n = some v) (hkeyed : keyed v) (h : waits v) (hready : ¬ v.ready = true) :
    keyTick n s =
      (noted (noted s (countdownDue n v)) (deferralDue n v)).putSvc n (some
        { v with keys := waitedKeys (counted v) }) := by
  set x := (noted s (countdownDue n v)).putSvc n (some (counted v)) with hx
  have hsvc : x.svc n = some (counted v) := svc_putSvc_self _ n _
  have hstay (hprot : v.keys.prot ≠ some .deferred) :
      x = (noted (noted s (countdownDue n v)) (deferralDue n v)).putSvc n (some
        { v with keys := waitedKeys (counted v) }) := by
    rw [deferralDue, if_neg fun h => hprot h.1, noted_nil, waitedKeys, if_neg (by exact hprot)]
  have hif : changeoverIfReady n x = x := by
    rw [changeoverIfReady, hsvc]
    exact if_neg hready
  rw [keyTick_of_keyed hv hkeyed, periodWork, ← hx]
  rcases h with h | h | ⟨h, htimed⟩
  · have hkeys : waitedKeys (counted v) = { countedKeys v with deferral := v.keys.deferral + 1 } := by
      rw [waitedKeys, if_pos (by exact h)]
      rfl
    rw [h]
    dsimp only
    rw [deferredTick, hsvc]
    dsimp only
    rw [if_neg (by exact hready), modKeys_some hsvc, hx, putSvc_putSvc, hkeys]
    by_cases hlimit : v.cfg.dmax ≤ v.keys.deferral + 1
    · rw [show deferralDue n v = [.deferral n] from if_pos ⟨h, hlimit⟩]
      exact if_pos hlimit
    · rw [show deferralDue n v = [] from if_neg fun h => hlimit h.2, noted_nil]
      exact if_neg hlimit
  · rw [h]
    dsimp only
    rw [hif, hstay (by rw [h]; decide)]
  · rw [h]
    dsimp only
    rw [if_neg htimed, hif, hstay (by rw [h]; decide)]

/-- A service in no period: CLEAR, BLACKOUT, or none. -/
theorem keyTick_of_idle (hv : s.svc n = some v) (hkeyed : keyed v) (hsteps : ¬ steps v) (hwaits : ¬ waits v) :
    keyTick n s = (noted s (countdownDue n v)).putSvc n (some (counted v)) := by
  rw [keyTick_of_keyed hv hkeyed, periodWork]
  split
  · next h => exact absurd (.inl h) hsteps
  · next h =>
    by_cases htimed : v.timed = true
    · exact absurd (.inr ⟨h, htimed⟩) hsteps
    · exact absurd (.inr (.inr ⟨h, htimed⟩)) hwaits
  · next h => exact absurd (.inl h) hwaits
  · next h => exact absurd (.inr (.inl h)) hwaits
  all_goals rfl

theorem countdownDue_service (n : Svc) (v : Service) : ∀ w ∈ countdownDue n v, workService w = some n := by
  intro w hw
  unfold countdownDue at hw
  split at hw
  · rw [List.mem_singleton.mp hw]
    rfl
  · cases hw

theorem deferralDue_service (n : Svc) (v : Service) : ∀ w ∈ deferralDue n v, workService w = some n := by
  intro w hw
  unfold deferralDue at hw
  split at hw
  · rw [List.mem_singleton.mp hw]
    rfl
  · cases hw

theorem timerExpiry_service (n : Svc) (v : Service) : workService (timerExpiry n v) = some n := by
  unfold timerExpiry
  split <;> rfl

theorem keyTick_onlyAt (n : Svc) (s : State) : OnlyAt n s (keyTick n s) := by
  cases hv : s.svc n with
  | none => rw [keyTick_none hv]; exact .refl n s
  | some v =>
    by_cases hkeyed : keyed v
    · have hcount : OnlyAt n s (noted s (countdownDue n v)) := .noted s (countdownDue_service n v)
      by_cases hsteps : steps v
      · rw [keyTick_of_steps hv hkeyed hsteps]
        refine hcount.trans ((OnlyAt.askedIf _ _ n _).trans ((OnlyAt.noted _ fun w hw => ?_).trans (.putSvc _ n _)))
        split at hw
        · rw [List.mem_singleton.mp hw]
          exact timerExpiry_service n v
        · cases hw
      · by_cases hwaits : waits v
        · by_cases hready : v.ready = true
          · rw [keyTick_of_ready hv hkeyed hwaits hready]
            exact hcount.trans ((OnlyAt.served _ n).trans ((OnlyAt.askedIf _ _ n _).trans (.putSvc _ n _)))
          · rw [keyTick_of_not_ready hv hkeyed hwaits hready]
            exact hcount.trans ((OnlyAt.noted _ (deferralDue_service n v)).trans (.putSvc _ n _))
        · rw [keyTick_of_idle hv hkeyed hsteps hwaits]
          exact hcount.trans (.putSvc _ n _)
    · rw [keyTick_of_not_keyed hv hkeyed]
      exact .refl n s

end Sys2Proof.Proofs
end

section
/-! PROOF. A frame start as a whole: its ticks one after another, each service once (O39). -/

namespace Sys2Proof.Proofs

open Sys2Proof.Machine

variable {s t u : State} {n : Svc} {v : Service}

/-! ## Ticks over a list of services -/

/-- Work on other services, seen from one service. -/
structure Elsewhere (n : Svc) (s t : State) : Prop where
  rest : sameBesidesTicks s t
  view : viewOf n t = viewOf n s
  attn : s.keyAttn = true → requestsOf n s ≠ [] → t.keyAttn = true

theorem Elsewhere.refl (n : Svc) (s : State) : Elsewhere n s s := ⟨rfl, rfl, fun h _ => h⟩

theorem Elsewhere.trans (h : Elsewhere n s t) (k : Elsewhere n t u) : Elsewhere n s u := by
  refine ⟨h.rest.trans k.rest, k.view.trans h.view, fun hattn hreq => k.attn (h.attn hattn hreq) ?_⟩
  rwa [show requestsOf n t = requestsOf n s from congrArg ServiceView.requests h.view]

theorem OnlyAt.elsewhere {m : Svc} (h : OnlyAt m s t) (hne : n ≠ m) : Elsewhere n s t :=
  ⟨h.rest, h.views n hne, h.attn n hne⟩

/-- Ticks that each concern one service. -/
def ticksAlone (f : State → Svc → State) : Prop := ∀ m s, OnlyAt m s (f s m)

theorem ticks_rest {f : State → Svc → State} (hf : ticksAlone f) (l : List Svc) (s : State) :
    sameBesidesTicks s (l.foldl f s) := by
  induction l generalizing s with
  | nil => exact rfl
  | cons m l ih => exact (hf m s).rest.trans (ih _)

theorem ticks_elsewhere {f : State → Svc → State} (hf : ticksAlone f) {l : List Svc} (hn : n ∉ l) (s : State) :
    Elsewhere n s (l.foldl f s) := by
  induction l generalizing s with
  | nil => exact .refl n s
  | cons m l ih =>
    obtain ⟨hm, hl⟩ := not_or.mp (List.mem_cons.not.mp hn)
    exact ((hf m s).elsewhere hm).trans (ih hl _)

/-- A service that stands once in a list is ticked once; the ticks before and after are elsewhere. -/
theorem ticks_at {f : State → Svc → State} (hf : ticksAlone f) {l : List Svc} (hl : l.Nodup) (hn : n ∈ l) (s : State) :
    ∃ u, Elsewhere n s u ∧ Elsewhere n (f u n) (l.foldl f s) := by
  obtain ⟨before, after, rfl⟩ := List.append_of_mem hn
  obtain ⟨-, hafter, hdisjoint⟩ := List.nodup_append.mp hl
  have hbefore : n ∉ before := fun hmem => hdisjoint n hmem n List.mem_cons_self rfl
  refine ⟨before.foldl f s, ticks_elsewhere hf hbefore s, ?_⟩
  rw [List.foldl_append, List.foldl_cons]
  exact ticks_elsewhere hf (List.nodup_cons.mp hafter).1 _

/-- An UNUSED entry is ticked without effect. -/
theorem ticks_none {f : State → Svc → State} (hf : ticksAlone f) (hnone : ∀ s : State, s.svc n = none → f s n = s)
    (l : List Svc) (h : s.svc n = none) : Elsewhere n s (l.foldl f s) := by
  induction l generalizing s with
  | nil => exact .refl n s
  | cons m l ih =>
    by_cases hm : n = m
    · subst hm
      rw [List.foldl_cons, hnone s h]
      exact ih h
    · have hfirst := (hf m s).elsewhere hm
      exact hfirst.trans (ih ((congrArg ServiceView.entry hfirst.view).trans h))

/-! ## The order of the work -/

theorem mem_onceEach (l : List Svc) (n : Svc) : n ∈ onceEach l ↔ n ∈ l := by
  induction l with
  | nil => rfl
  | cons m l ih =>
    rw [onceEach, List.mem_cons, List.mem_filter, ih, List.mem_cons, bne_iff_ne]
    by_cases hm : n = m <;> simp [hm]

theorem nodup_onceEach (l : List Svc) : (onceEach l).Nodup := by
  induction l with
  | nil => exact List.nodup_nil
  | cons m l ih =>
    refine List.nodup_cons.mpr ⟨fun h => ?_, ih.filter _⟩
    simpa using (List.mem_filter.mp h).2

theorem mem_workOrder (order : List Svc) (n : Svc) : n ∈ workOrder order := by
  rw [workOrder, List.mem_append, mem_onceEach, List.mem_filter]
  by_cases hn : n ∈ order
  · exact .inl hn
  · exact .inr ⟨mem_allServices n, by simpa using hn⟩

theorem nodup_workOrder (order : List Svc) : (workOrder order).Nodup := by
  refine List.nodup_append.mpr ⟨nodup_onceEach order, nodup_allServices.filter _, fun m hm k hk hmk => ?_⟩
  rw [mem_onceEach] at hm
  have hnot : m ∉ order := by
    rw [hmk]
    simpa using (List.mem_filter.mp hk).2
  exact hnot hm

/-! ## A period start (R103) -/

theorem foldl_putSvc_rest (f : Svc × Service → Service) (l : List (Svc × Service)) (s : State) :
    l.foldl (fun t x => t.putSvc x.1 (some (f x))) s =
      { s with services := (l.foldl (fun t x => t.putSvc x.1 (some (f x))) s).services } := by
  induction l generalizing s with
  | nil => rfl
  | cons x l ih =>
    rw [List.foldl_cons, ih]
    rfl

theorem foldl_putSvc_svc_of_not_mem (f : Svc × Service → Service) {l : List (Svc × Service)}
    (h : n ∉ l.map Prod.fst) (s : State) : (l.foldl (fun t x => t.putSvc x.1 (some (f x))) s).svc n = s.svc n := by
  induction l generalizing s with
  | nil => rfl
  | cons x l ih =>
    obtain ⟨hx, hl⟩ := not_or.mp (List.mem_cons.not.mp h)
    rw [List.foldl_cons, ih hl, State.svc_putSvc, if_neg hx]

theorem foldl_putSvc_svc_of_mem (f : Svc × Service → Service) {l : List (Svc × Service)} (hl : (l.map Prod.fst).Nodup)
    {x : Svc × Service} (hx : x ∈ l) (s : State) :
    (l.foldl (fun t x => t.putSvc x.1 (some (f x))) s).svc x.1 = some (f x) := by
  induction l generalizing s with
  | nil => cases hx
  | cons y l ih =>
    obtain ⟨hy, hl⟩ := List.nodup_cons.mp hl
    rcases List.mem_cons.mp hx with rfl | hx
    · rw [List.foldl_cons, foldl_putSvc_svc_of_not_mem f hy, svc_putSvc_self]
    · exact ih hl hx _

/-- Each participant gets its grant, and no other entry changes. -/
theorem allocatePeriod_svc (s : State) (n : Svc) :
    (allocatePeriod s).svc n = (s.svc n).map fun v =>
      if v.participant then v.granted (grantOf s.frameStruct s.participants n v) else v := by
  have hnodup : (s.participants.map Prod.fst).Nodup := by
    rw [map_fst_participants]
    exact nodup_allServices.filter _
  set f : Svc × Service → Service := fun x => x.2.granted (grantOf s.frameStruct s.participants x.1 x.2) with hf
  have hnot (h : s.isParticipant n = false) : (allocatePeriod s).svc n = s.svc n := by
    refine foldl_putSvc_svc_of_not_mem f ?_ s
    rw [map_fst_participants, List.mem_filter, h]
    exact fun hc => Bool.false_ne_true hc.2
  cases hv : s.svc n with
  | none => rw [hnot (by rw [State.isParticipant, hv]), hv]; rfl
  | some v =>
    by_cases hpart : v.participant = true
    · have hmem : (n, v) ∈ s.participants := (mem_participants_iff s (n, v)).mpr ⟨hv, hpart⟩
      rw [Option.map_some, if_pos hpart]
      exact foldl_putSvc_svc_of_mem f hnodup hmem s
    · rw [hnot (by rw [State.isParticipant, hv]; exact Bool.eq_false_iff.mpr hpart), hv, Option.map_some, if_neg hpart]

theorem allocatePeriod_rest (s : State) : allocatePeriod s = { s with services := (allocatePeriod s).services } :=
  foldl_putSvc_rest _ _ s

theorem sameBesidesTicks_periodStart (s : State) : sameBesidesTicks s (periodStart s) := by
  unfold periodStart
  split
  · split
    · rw [sameBesidesTicks, allocatePeriod_rest]
    · rfl
  · rfl

theorem periodStart_view (s : State) (n : Svc) :
    requestsOf n (periodStart s) = requestsOf n s ∧ dueOf n (periodStart s) = dueOf n s ∧
      (periodStart s).keyAttn = s.keyAttn ∧ (s.svc n = none → (periodStart s).svc n = none) ∧
        ∀ v, s.svc n = some v → ∃ a, (periodStart s).svc n = some { v with alloc := a } := by
  unfold periodStart
  split
  · split
    · refine ⟨?_, ?_, ?_, fun h => ?_, fun v hv => ?_⟩
      · rw [allocatePeriod_rest]; rfl
      · rw [allocatePeriod_rest]; rfl
      · rw [allocatePeriod_rest]
      · rw [allocatePeriod_svc, h]; rfl
      · rw [allocatePeriod_svc, hv, Option.map_some]
        split
        · exact ⟨_, rfl⟩
        · exact ⟨v.alloc, rfl⟩
    · refine ⟨rfl, ?_, rfl, id, fun v hv => ⟨v.alloc, hv⟩⟩
      rw [noteWork_eq, dueOf_noted]
      simp [workService]
  · exact ⟨rfl, rfl, rfl, id, fun v hv => ⟨v.alloc, hv⟩⟩

/-! ## The frame start -/

theorem silence_ticksAlone : ticksAlone fun t n => silenceTick n t := silenceTick_onlyAt

theorem key_ticksAlone : ticksAlone fun t n => keyTick n t := keyTick_onlyAt

theorem sameBesidesTicks_startFrame (early order : List Svc) (s : State) :
    sameBesidesTicks (beginFrame s) (startFrame early order s) :=
  (ticks_rest silence_ticksAlone _ _).trans ((sameBesidesTicks_periodStart _).trans
    ((ticks_rest silence_ticksAlone _ _).trans (ticks_rest key_ticksAlone _ _)))

theorem silenced_alloc (v : Service) (a : AllocCtx) :
    silenced { v with alloc := a } = { silenced v with alloc := a } := by
  unfold silenced
  split_ifs <;> rfl

/-- The silence tick of a service, seen from it. -/
theorem viewOf_silenceTick (hv : s.svc n = some v) :
    viewOf n (silenceTick n s) =
      { viewOf n s with entry := some (silenced v), due := dueOf n s ++ silenceDue n v } := by
  have hall : (silenceDue n v).filter (fun w => workService w == some n) = silenceDue n v := by
    refine List.filter_eq_self.mpr fun w hw => ?_
    unfold silenceDue at hw
    split at hw
    · rw [List.mem_singleton.mp hw]
      simp [workService]
    · cases hw
  rw [silenceTick_eq hv]
  have hdue : dueOf n ((noted s (silenceDue n v)).putSvc n (some (silenced v))) = dueOf n s ++ silenceDue n v := by
    rw [show dueOf n ((noted s (silenceDue n v)).putSvc n (some (silenced v))) = dueOf n (noted s (silenceDue n v)) from rfl,
      dueOf_noted, hall]
  simp only [viewOf, svc_putSvc_self, hdue]
  rfl

/-- Before its key work, a service at a frame start has had its silence counter worked and, in a period start, its
allocation context set; the key work of the others is elsewhere. -/
theorem startFrame_at (early order : List Svc) (hv : s.svc n = some v) :
    ∃ u a, viewOf n u = { entry := some { silenced v with alloc := a }, requests := requestsOf n s,
                          due := dueOf n s ++ silenceDue n v, frame := newFrameNumber s } ∧
      Elsewhere n (keyTick n u) (startFrame early order s) := by
  have hbegin : viewOf n (beginFrame s) =
      { entry := some v, requests := requestsOf n s, due := dueOf n s, frame := newFrameNumber s } := by
    rw [← hv]
    rfl
  set order' := workOrder order with horder
  set s1 := silenceTicks (order'.filter fun n => early.contains n) (beginFrame s) with hs1
  set s3 := silenceTicks (order'.filter fun n => !early.contains n) (periodStart s1) with hs3
  have hmem : n ∈ order' := mem_workOrder order n
  have hnodup : order'.Nodup := nodup_workOrder order
  obtain ⟨u, hbefore, hafter⟩ := ticks_at key_ticksAlone hnodup hmem s3
  obtain ⟨hreq, hdue, -, -, halloc⟩ := periodStart_view s1 n
  have hframe : (periodStart s1).frameNumber = s1.frameNumber := by rw [sameBesidesTicks_periodStart s1]
  suffices hview : ∃ a, viewOf n s3 = ServiceView.mk (some { silenced v with alloc := a }) (requestsOf n s)
      (dueOf n s ++ silenceDue n v) (newFrameNumber s) by
    obtain ⟨a, ha⟩ := hview
    exact ⟨u, a, hbefore.view.trans ha, hafter⟩
  by_cases hearly : n ∈ early
  · have hin : n ∈ order'.filter fun n => early.contains n := List.mem_filter.mpr ⟨hmem, by simpa using hearly⟩
    have hout : n ∉ order'.filter fun n => !early.contains n := by simp [hearly]
    obtain ⟨x, hx, hx'⟩ := ticks_at silence_ticksAlone (hnodup.filter _) hin (beginFrame s)
    have hsvc : x.svc n = some v := congrArg ServiceView.entry (hx.view.trans hbegin)
    have h1 : viewOf n s1 = ServiceView.mk (some (silenced v)) (requestsOf n s) (dueOf n s ++ silenceDue n v)
        (newFrameNumber s) := by
      rw [hs1, silenceTicks, hx'.view, viewOf_silenceTick hsvc, hx.view, hbegin,
        show dueOf n x = dueOf n s from congrArg ServiceView.due (hx.view.trans hbegin)]
    obtain ⟨a, ha⟩ := halloc (silenced v) (congrArg ServiceView.entry h1)
    refine ⟨a, ?_⟩
    rw [hs3, silenceTicks, (ticks_elsewhere silence_ticksAlone hout _).view, viewOf, ha, hreq, hdue, hframe,
      show requestsOf n s1 = _ from congrArg ServiceView.requests h1, show dueOf n s1 = _ from congrArg ServiceView.due h1,
      show s1.frameNumber = _ from congrArg ServiceView.frame h1]
  · have hin : n ∈ order'.filter fun n => !early.contains n := List.mem_filter.mpr ⟨hmem, by simpa using hearly⟩
    have hout : n ∉ order'.filter fun n => early.contains n := by simp [hearly]
    have h1 : viewOf n s1 = { entry := some v, requests := requestsOf n s, due := dueOf n s, frame := newFrameNumber s } :=
      (ticks_elsewhere silence_ticksAlone hout _).view.trans hbegin
    obtain ⟨a, ha⟩ := halloc v (congrArg ServiceView.entry h1)
    obtain ⟨x, hx, hx'⟩ := ticks_at silence_ticksAlone (hnodup.filter _) hin (periodStart s1)
    have hsvc : x.svc n = some { v with alloc := a } := (congrArg ServiceView.entry hx.view).trans ha
    have hmid : viewOf n (periodStart s1) = ServiceView.mk (some { v with alloc := a }) (requestsOf n s) (dueOf n s)
        (newFrameNumber s) := by
      rw [viewOf, ha, hreq, hdue, hframe,
        show requestsOf n s1 = _ from congrArg ServiceView.requests h1,
        show dueOf n s1 = _ from congrArg ServiceView.due h1,
        show s1.frameNumber = _ from congrArg ServiceView.frame h1]
    refine ⟨a, ?_⟩
    rw [hs3, silenceTicks, hx'.view, viewOf_silenceTick hsvc, hx.view, silenced_alloc,
      show dueOf n x = _ from congrArg ServiceView.due (hx.view.trans hmid), hmid]
    rfl

/-- An UNUSED entry stays so, without work. -/
theorem startFrame_none (early order : List Svc) (h : s.svc n = none) :
    (startFrame early order s).svc n = none ∧ dueOf n (startFrame early order s) = dueOf n s := by
  have h1 := ticks_none silence_ticksAlone (fun _ hs => silenceTick_none hs)
    ((workOrder order).filter fun n => early.contains n) (s := beginFrame s) h
  have hsvc1 := (congrArg ServiceView.entry h1.view).trans h
  obtain ⟨-, hdue, -, hnone, -⟩ := periodStart_view
    (silenceTicks ((workOrder order).filter fun n => early.contains n) (beginFrame s)) n
  have h2 := ticks_none silence_ticksAlone (fun _ hs => silenceTick_none hs)
    ((workOrder order).filter fun n => !early.contains n) (hnone hsvc1)
  have h3 := ticks_none key_ticksAlone (fun _ hs => keyTick_none hs) (workOrder order)
    ((congrArg ServiceView.entry h2.view).trans (hnone hsvc1))
  have hview := h3.view.trans h2.view
  exact ⟨(congrArg ServiceView.entry hview).trans (hnone hsvc1),
    (congrArg ServiceView.due hview).trans (hdue.trans (congrArg ServiceView.due h1.view))⟩

end Sys2Proof.Proofs
end


section
/-! PROOF. FRAME_START (R98, R114, R115, R134 to R141, R145): the bytes of the SYNC cell, and what the frame start does to
one service. -/

namespace Sys2Proof.Proofs
open Sys2Proof.Machine

variable {s t u : State} {n : Svc} {v : Service}

/-! ## Payload bytes (R112) -/

theorem natOfBytes_eq (l : List Byte) : natOfBytes l = l.foldl (fun a b => 256 * a + b.toNat) 0 := rfl

theorem foldl_bytes_div (l : List Byte) (a : Nat) :
    l.foldl (fun a b => 256 * a + b.toNat) a / 256 ^ l.length = a := by
  induction l generalizing a with
  | nil => simp
  | cons b l ih =>
    rw [List.foldl_cons, List.length_cons, pow_succ, ← Nat.div_div_eq_div_mul, ih]
    have := b.isLt
    omega

theorem bytesOfNat_foldl (l : List Byte) (a : Nat) :
    bytesOfNat l.length (l.foldl (fun a b => 256 * a + b.toNat) a) = l := by
  induction l generalizing a with
  | nil => rfl
  | cons b l ih =>
    rw [List.length_cons, bytesOfNat, List.foldl_cons, ih, foldl_bytes_div]
    congr 1
    apply BitVec.eq_of_toNat_eq
    rw [byteOf, BitVec.toNat_ofNat]
    have := b.isLt
    omega

theorem natOfBytes_lt (l : List Byte) : natOfBytes l < 256 ^ l.length :=
  (Nat.div_eq_zero_iff_lt (by positivity)).mp (foldl_bytes_div l 0)

/-- The bytes of a payload formed from bytes are these, followed by zeros (R112, R191). -/
theorem payloadBytes_payloadOfBytes {l : List Byte} (h : l.length ≤ 92) :
    payloadBytes (payloadOfBytes l) = l ++ List.replicate (92 - l.length) 0 := by
  have hpad : (l ++ List.replicate Config.payloadBytes 0).take Config.payloadBytes =
      l ++ List.replicate (92 - l.length) 0 := by
    rw [List.take_append, List.take_of_length_le (by exact h), List.take_replicate]
    congr 2
    exact Nat.min_eq_left (Nat.sub_le ..)
  have hlen : (l ++ List.replicate (92 - l.length) (0 : Byte)).length = 92 := by
    rw [List.length_append, List.length_replicate]
    omega
  have hlt := natOfBytes_lt (l ++ List.replicate (92 - l.length) 0)
  rw [hlen] at hlt
  have hsize : (256 : Nat) ^ 92 = 2 ^ 736 := (pow_mul 2 8 92).symm
  rw [payloadBytes, payloadOfBytes, hpad, BitVec.toNat_ofNat, Nat.mod_eq_of_lt (hsize ▸ hlt)]
  have hbytes := bytesOfNat_foldl (l ++ List.replicate (92 - l.length) 0) 0
  rw [hlen] at hbytes
  exact hbytes

theorem length_syncFields (frame : Word) (m : Mux) (q : Quantizer) : (syncFields frame m q).length = 73 := by
  simp [syncFields, be32, be16, be16Of]

/-- The bytes of a SYNC cell (R115). -/
theorem bytes_syncCell (frame : Word) (m : Mux) (q : Quantizer) :
    (syncCell frame m q).bytes = [0x00, 0x02, 0x48, crc8 [0x00, 0x02, 0x48]] ++ be32 frame ++ be16Of m.f
      ++ [byteOf m.l, byteOf m.a, q.active.byte]
      ++ q.bank0.intra.toList ++ q.bank0.predicted.toList ++ q.bank1.intra.toList
      ++ q.bank1.predicted.toList ++ List.replicate 19 0 := by
  have hpayload := payloadBytes_payloadOfBytes (l := syncFields frame m q) (by rw [length_syncFields]; norm_num)
  have hheader : (syncCell frame m q).header = [0x00, 0x02, 0x48] := by
    simp [syncCell, OutCell.header, CellKind.number, Phase.byte, byteOf]
  rw [OutCell.bytes, hheader, show (syncCell frame m q).payload = payloadOfBytes (syncFields frame m q) from rfl, hpayload,
    length_syncFields, syncFields]
  simp only [List.append_assoc, List.cons_append, List.nil_append]

/-! ## One service after a frame start -/

theorem silenced_eq (v : Service) : silenced v = { v with ingest := (silenced v).ingest } := by
  unfold silenced
  split
  · split <;> rfl
  · rfl

/-- A service after a frame start that found nothing outstanding: `keys`, `seq`, the service's requests and its key work
stand as given; silence counter and allocation context have had their own work. -/
structure Begun (n : Svc) (t : State) (v : Service) (keys : KeyCtx) (seq : Word) (requests : List KeyRequest)
    (due : List FrameWork) : Prop where
  entry : ∃ a, t.svc n = some { v with ingest := (silenced v).ingest, alloc := a, keys := keys, cellSeq := seq }
  requests : requestsOf n t = requests
  due : dueOf n t = silenceDue n v ++ due

/-- The Key Unit's work of a service finds the entry with the silence counter and the allocation context worked. -/
theorem startFrame_keyTick (early order : List Svc) (hv : s.svc n = some v) (hnil : s.frameDue = []) :
    ∃ u a, u.svc n = some { v with ingest := (silenced v).ingest, alloc := a } ∧ requestsOf n u = requestsOf n s ∧
      dueOf n u = silenceDue n v ∧ u.frameNumber = newFrameNumber s ∧
        Elsewhere n (keyTick n u) (startFrame early order s) := by
  obtain ⟨u, a, hview, hafter⟩ := startFrame_at early order hv
  refine ⟨u, a, ?_, congrArg ServiceView.requests hview, ?_, congrArg ServiceView.frame hview, hafter⟩
  · rw [show u.svc n = _ from congrArg ServiceView.entry hview, silenced_eq]
  · rw [show dueOf n u = _ from congrArg ServiceView.due hview, dueOf, hnil]
    rfl

/-- What the Key Unit's work leaves of a service stands after the frame start. -/
theorem Begun.of_keyTick {keys : KeyCtx} {seq : Word} {x : State} {a : AllocCtx} {due : List FrameWork}
    (hafter : Elsewhere n (keyTick n u) t)
    (hx : keyTick n u = x.putSvc n (some
      { v with ingest := (silenced v).ingest, alloc := a, keys := keys, cellSeq := seq }))
    {requests : List KeyRequest} (hreq : requestsOf n x = requests) (hdue : dueOf n x = silenceDue n v ++ due) :
    Begun n t v keys seq requests due := by
  have hview := hafter.view
  rw [hx] at hview
  exact ⟨⟨a, (congrArg ServiceView.entry hview).trans (svc_putSvc_self _ _ _)⟩, (congrArg ServiceView.requests hview).trans hreq,
    (congrArg ServiceView.due hview).trans hdue⟩

theorem dueOf_askedIf (s : State) (due : Prop) [Decidable due] (m k : Svc) (ph : Phase) :
    dueOf m (s.askedIf due k ph) = dueOf m s := by
  unfold State.askedIf
  split <;> rfl

theorem dueOf_noted_of {l d : List FrameWork} (hdue : dueOf n s = d) (h : ∀ w ∈ l, workService w = some n) :
    dueOf n (noted s l) = d ++ l := by
  rw [dueOf_noted, hdue, List.filter_eq_self.mpr fun w hw => by rw [h w hw]; exact beq_self_eq_true _]

theorem requestsOf_askedIf_congr (h : requestsOf n s = requestsOf n t) (due : Prop) [Decidable due] (ph : Phase) :
    requestsOf n (s.askedIf due n ph) = requestsOf n (t.askedIf due n ph) := by
  unfold State.askedIf
  split
  · rw [requestsOf_asked, requestsOf_asked, h]
  · exact h

theorem requestsOf_served (s : State) (n : Svc) : requestsOf n (served s n) = [] := by
  refine List.filter_eq_nil_iff.mpr fun r hr => ?_
  have := (List.mem_filter.mp hr).2
  simpa using this

theorem requestsOf_served_askedIf (s : State) (due : Prop) [Decidable due] (n : Svc) (ph : Phase) :
    requestsOf n ((served s n).askedIf due n ph) =
      if due then [{ service := n, phase := ph, urgent := false }] else [] := by
  unfold State.askedIf
  split
  · rw [requestsOf_asked, if_pos rfl, requestsOf_served]
    rfl
  · exact requestsOf_served s n

theorem keyAttn_asked (s : State) (n : Svc) (ph : Phase) (urgent : Bool) : (s.asked n ph urgent).keyAttn = true := rfl

section
variable (early order : List Svc) (hv : s.svc n = some v) (hnil : s.frameDue = [])
include hv hnil

theorem begun_of_not_keyed (h : ¬ keyed v) :
    Begun n (startFrame early order s) v v.keys v.cellSeq (requestsOf n s) [] := by
  obtain ⟨u, a, hu, hreq, hdue, -, hafter⟩ := startFrame_keyTick early order hv hnil
  refine .of_keyTick hafter (x := u) (a := a) ?_ hreq ?_
  · rw [keyTick_of_not_keyed hu h]
    exact (putSvc_self hu).symm
  · rw [hdue, List.append_nil]

theorem begun_of_idle (hkeyed : keyed v) (hsteps : ¬ steps v) (hwaits : ¬ waits v) :
    Begun n (startFrame early order s) v (countedKeys v) v.cellSeq (requestsOf n s) (countdownDue n v) := by
  obtain ⟨u, a, hu, hreq, hdue, -, hafter⟩ := startFrame_keyTick early order hv hnil
  refine .of_keyTick hafter (keyTick_of_idle hu hkeyed hsteps hwaits) ?_ ?_
  · exact hreq
  exact dueOf_noted_of hdue (countdownDue_service n v)

/-- The work that the step of a timer leaves outstanding. -/
theorem begun_of_steps (hkeyed : keyed v) (h : steps v) :
    Begun n (startFrame early order s) v (steppedKeys (counted v)) v.cellSeq
        (requestsOf n (s.askedIf (asksAtTick (counted v)) n v.keys.wantedPhase))
        (countdownDue n v ++ if (v.keys.timer.step v.cfg.p).count = 0 then [timerExpiry n v] else []) ∧
      (asksAtTick (counted v) → (startFrame early order s).keyAttn = true) := by
  obtain ⟨u, a, hu, hreq, hdue, -, hafter⟩ := startFrame_keyTick early order hv hnil
  have htick := keyTick_of_steps hu hkeyed h
  constructor
  · refine .of_keyTick hafter htick ?_ ?_
    · exact requestsOf_askedIf_congr (s := noted u (countdownDue n v)) hreq _ _
    have hcount : dueOf n (noted u (countdownDue n v)) = silenceDue n v ++ countdownDue n v :=
      dueOf_noted_of hdue (countdownDue_service n v)
    rw [← List.append_assoc]
    refine dueOf_noted_of ((dueOf_askedIf _ _ _ _ _).trans hcount) fun w hw => ?_
    split at hw
    · rw [List.mem_singleton.mp hw]
      exact timerExpiry_service n v
    · cases hw
  · intro hasks
    rw [htick] at hafter
    have hasked : ((noted u (countdownDue n v)).askedIf (asksAtTick (counted v)) n v.keys.wantedPhase) =
        (noted u (countdownDue n v)).asked n v.keys.wantedPhase false := if_pos hasks
    refine hafter.attn (congrArg State.keyAttn hasked :) ?_
    have hreqs : requestsOf n ((noted u (countdownDue n v)).askedIf (asksAtTick (counted v)) n v.keys.wantedPhase) ≠ [] := by
      rw [hasked, requestsOf_asked, if_pos rfl]
      exact insertRequest_ne_nil _ _
    exact hreqs

theorem begun_of_ready (hkeyed : keyed v) (h : waits v) (hready : v.ready = true) :
    Begun n (startFrame early order s) v (changedKeys (counted v) (newFrameNumber s)) 0
      (if v.timed = true ∧ v.cfg.p * v.cfg.c ≤ v.cfg.lead then
        [{ service := n, phase := v.keys.phase, urgent := false }] else []) (countdownDue n v) := by
  obtain ⟨u, a, hu, hreq, hdue, hframe, hafter⟩ := startFrame_keyTick early order hv hnil
  have htick := keyTick_of_ready hu hkeyed h hready
  rw [← hframe]
  refine .of_keyTick hafter htick ?_ ?_
  · exact requestsOf_served_askedIf (noted u (countdownDue n v)) _ _ _
  exact (dueOf_askedIf _ _ _ _ _).trans (dueOf_noted_of hdue (countdownDue_service n v))

theorem begun_of_not_ready (hkeyed : keyed v) (h : waits v) (hready : ¬ v.ready = true) :
    Begun n (startFrame early order s) v (waitedKeys (counted v)) v.cellSeq (requestsOf n s)
      (countdownDue n v ++ deferralDue n v) := by
  obtain ⟨u, a, hu, hreq, hdue, -, hafter⟩ := startFrame_keyTick early order hv hnil
  refine .of_keyTick hafter (keyTick_of_not_ready hu hkeyed h hready) ?_ ?_
  · exact hreq
  rw [← List.append_assoc]
  exact dueOf_noted_of (dueOf_noted_of hdue (countdownDue_service n v)) (deferralDue_service n v)

end

end Sys2Proof.Proofs
end


section
/-! PROOF. O39: what FRAME_START leaves outstanding, and its effect on the frame and on each service. -/

namespace Sys2Proof.Proofs
open Sys2Proof.Machine

variable {s t u : State} {n : Svc} {v : Service}

/-! ## The work left outstanding -/

/-- Key work of a service. -/
def isKeyWork (n : Svc) (w : FrameWork) : Bool := w == .period n || w == .window n || w == .deferral n

theorem workService_of_isKeyWork {w : FrameWork} (h : isKeyWork n w = true) : workService w = some n := by
  simp only [isKeyWork, Bool.or_eq_true, beq_iff_eq] at h
  rcases h with (rfl | rfl) | rfl <;> rfl

theorem filter_isKeyWork_frameDue (n : Svc) (t : State) :
    t.frameDue.filter (isKeyWork n) = (dueOf n t).filter (isKeyWork n) := by
  rw [dueOf, List.filter_filter]
  refine List.filter_congr fun w _ => ?_
  cases hw : isKeyWork n w with
  | false => rfl
  | true => rw [workService_of_isKeyWork hw, beq_self_eq_true, Bool.and_self]

theorem mem_frameDue_iff {w : FrameWork} (h : workService w = some n) : w ∈ t.frameDue ↔ w ∈ dueOf n t := by
  rw [dueOf, List.mem_filter, h]
  simp

theorem filter_silenceDue (n : Svc) (v : Service) : (silenceDue n v).filter (isKeyWork n) = [] := by
  unfold silenceDue
  split <;> simp [isKeyWork]

theorem filter_countdownDue (n : Svc) (v : Service) : (countdownDue n v).filter (isKeyWork n) = [] := by
  unfold countdownDue
  split <;> simp [isKeyWork]

theorem mem_silenceDue (n m : Svc) (v : Service) : FrameWork.countdown m ∉ silenceDue n v := by
  unfold silenceDue
  split <;> simp

theorem mem_countdownDue (n : Svc) (v : Service) :
    FrameWork.countdown n ∈ countdownDue n v ↔ v.keys.hasKey = true ∧ v.keys.countdown ≤ 1 := by
  unfold countdownDue
  split
  · next h => simp [h]
  · next h => simp only [List.not_mem_nil, false_iff]; exact h

section
variable {keys : KeyCtx} {seq : Word} {requests : List KeyRequest} {due : List FrameWork}

/-- The key work of a service after a frame start. -/
theorem Begun.keyWork (h : Begun n t v keys seq requests (countdownDue n v ++ due)) (hdue : ∀ w ∈ due, isKeyWork n w = true) :
    t.frameDue.filter (isKeyWork n) = due := by
  rw [filter_isKeyWork_frameDue, h.due, List.filter_append, List.filter_append, filter_silenceDue, filter_countdownDue,
    List.filter_eq_self.mpr hdue, List.nil_append, List.nil_append]

/-- The countdown of a service that runs out at a frame start stands outstanding. -/
theorem Begun.countdown_mem (h : Begun n t v keys seq requests (countdownDue n v ++ due))
    (hdue : ∀ w ∈ due, isKeyWork n w = true) :
    FrameWork.countdown n ∈ t.frameDue ↔ v.keys.hasKey = true ∧ v.keys.countdown ≤ 1 := by
  have hout : FrameWork.countdown n ∉ due := fun hmem => by simpa [isKeyWork] using hdue _ hmem
  rw [mem_frameDue_iff rfl, h.due, List.mem_append, List.mem_append, mem_countdownDue]
  exact ⟨fun h => h.elim (fun h => absurd h (mem_silenceDue n n v)) fun h => h.resolve_right hout, fun h => .inr (.inl h)⟩

end

theorem isKeyWork_timerExpiry (n : Svc) (v : Service) :
    ∀ w ∈ (if (v.keys.timer.step v.cfg.p).count = 0 then [timerExpiry n v] else []), isKeyWork n w = true := by
  intro w hw
  split at hw
  · rw [List.mem_singleton.mp hw, timerExpiry]
    split <;> simp [isKeyWork]
  · cases hw

theorem isKeyWork_deferralDue (n : Svc) (v : Service) : ∀ w ∈ deferralDue n v, isKeyWork n w = true := by
  intro w hw
  unfold deferralDue at hw
  split at hw
  · rw [List.mem_singleton.mp hw]
    simp [isKeyWork]
  · cases hw

/-- Whatever its protection state, a SCRAMBLED participant is left `Begun`, with its countdown and key work alone
outstanding besides its silence expiry. -/
theorem begun_of_keyed (early order : List Svc) (hv : s.svc n = some v) (hnil : s.frameDue = []) (hkeyed : keyed v) :
    ∃ keys seq requests due, Begun n (startFrame early order s) v keys seq requests (countdownDue n v ++ due) ∧
      ∀ w ∈ due, isKeyWork n w = true := by
  by_cases hsteps : steps v
  · exact ⟨_, _, _, _, (begun_of_steps early order hv hnil hkeyed hsteps).1, isKeyWork_timerExpiry n v⟩
  · by_cases hwaits : waits v
    · by_cases hready : v.ready = true
      · have h := begun_of_ready early order hv hnil hkeyed hwaits hready
        rw [← List.append_nil (countdownDue n v)] at h
        exact ⟨_, _, _, _, h, fun _ hw => nomatch hw⟩
      · exact ⟨_, _, _, _, begun_of_not_ready early order hv hnil hkeyed hwaits hready, isKeyWork_deferralDue n v⟩
    · have h := begun_of_idle early order hv hnil hkeyed hsteps hwaits
      rw [← List.append_nil (countdownDue n v)] at h
      exact ⟨_, _, _, _, h, fun _ hw => nomatch hw⟩

/-- A frame start leaves every service `Begun`, its silence expiry outstanding only if its silence counter has reached
Z. -/
theorem begun_any (early order : List Svc) (hv : s.svc n = some v) (hnil : s.frameDue = []) :
    ∃ keys seq requests due, Begun n (startFrame early order s) v keys seq requests due ∧ FrameWork.silence n ∉ due := by
  by_cases hkeyed : keyed v
  · obtain ⟨keys, seq, requests, due, hbegun, hdue⟩ := begun_of_keyed early order hv hnil hkeyed
    refine ⟨keys, seq, requests, _, hbegun, fun hmem => ?_⟩
    rcases List.mem_append.mp hmem with h | h
    · unfold countdownDue at h
      split at h <;> simp at h
    · simpa [isKeyWork] using hdue _ h
  · exact ⟨_, _, _, _, begun_of_not_keyed early order hv hnil hkeyed, List.not_mem_nil⟩

theorem Begun.keys_eq {keys : KeyCtx} {seq : Word} {requests : List KeyRequest} {due : List FrameWork} {w : Service}
    (h : Begun n t v keys seq requests due) (hw : t.svc n = some w) : w.keys = keys ∧ w.cellSeq = seq := by
  obtain ⟨⟨a, hentry⟩, -, -⟩ := h
  obtain rfl := Option.some.inj (hw.symm.trans hentry)
  exact ⟨rfl, rfl⟩

/-- The keys of a changeover at a frame start, as R137 and R134 spell them. -/
theorem changedKeys_counted (v : Service) (frame : Word) {reloads : Prop} [Decidable reloads]
    (h : v.timed = true ↔ reloads) :
    changedKeys (counted v) frame = { (countedKeys v).setSlot v.keys.phase none with
      phase := v.keys.phase.other, generation := v.keys.generation + 1, stamp := some frame
      prot := some .scrambled, deferral := 0, countdown := v.cfg.e
      timer := if reloads then { prescale := v.cfg.p, count := v.cfg.c } else v.keys.timer
      requestMark := if reloads then decide (reloads ∧ v.cfg.p * v.cfg.c ≤ v.cfg.lead) else v.keys.requestMark } := by
  by_cases ht : v.timed = true
  · rw [if_pos (h.mp ht), if_pos (h.mp ht), changedKeys_of_timed (v := counted v) ht,
      decide_eq_decide.mpr (and_congr_left' h.symm)]
    rfl
  · rw [if_neg fun hr => ht (h.mpr hr), if_neg fun hr => ht (h.mpr hr), changedKeys_of_not_timed (v := counted v) ht]
    cases hphase : v.keys.phase <;> simp [turnedKeys, countedKeys, KeyCtx.setSlot, hphase]

theorem keyed_of {v : Service} (hact : v.activity ≠ .defined) (hprot : v.cfg.protection = .scrambled) : keyed v :=
  ⟨bne_iff_ne.mpr hact, hprot⟩

theorem not_keyed_of {v : Service} (h : v.activity = .defined ∨ v.cfg.protection = .clear) : ¬ keyed v := by
  rintro ⟨hpart, hprot⟩
  rcases h with h | h
  · exact bne_iff_ne.mp hpart h
  · rw [h] at hprot
    cases hprot

/-! ## FRAME_START -/

theorem exec_frameStart {early order : List Svc} (hrest : s.atRest) (hslot : s.slotIndex = 0) :
    exec (.frameStart early order) s = .next (startFrame early order s) := by
  have h : exec (.frameStart early order) s =
      .next (operate (fun t => if t.slotIndex = 0 then startFrame early order t else t) s) := rfl
  rw [h, operate_of_rest _ _ hrest.1 hrest.2, if_pos hslot]

theorem nextSlot_zero {m : Mux} (h : 2 ≤ m.f) : nextSlot m 0 = 1 := if_pos (by omega)

/-- The silence counter of a service at a frame start (R35). -/
theorem silenced_counts (v : Service) (hact : v.activity = .running ∨ v.activity = .draining)
    (hmark : v.ingest.expired = false) :
    (v.ingest.silence + 1 < v.cfg.z → (silenced v).ingest = { v.ingest with silence := v.ingest.silence + 1 } ∧
      silenceDue n v = []) ∧
    (v.cfg.z ≤ v.ingest.silence + 1 → (silenced v).ingest = { v.ingest with silence := v.cfg.z, expired := true } ∧
      silenceDue n v = [.silence n]) := by
  unfold silenced silenceDue
  rw [if_pos ⟨hact, hmark⟩]
  refine ⟨fun h => ?_, fun h => ?_⟩
  · rw [if_neg (by omega), if_neg fun h' => by omega]
    exact ⟨rfl, rfl⟩
  · rw [if_pos h, if_pos ⟨⟨hact, hmark⟩, h⟩]
    exact ⟨rfl, rfl⟩

theorem silenced_stands (h : ¬ ((v.activity = .running ∨ v.activity = .draining) ∧ v.ingest.expired = false)) :
    (silenced v).ingest = v.ingest ∧ silenceDue n v = [] := by
  unfold silenced silenceDue
  rw [if_neg h, if_neg fun h' => h h'.1]
  exact ⟨rfl, rfl⟩

theorem silenced_state (v : Service) : (silenced v).ingest.state = v.ingest.state := by
  unfold silenced
  split
  · split <;> rfl
  · rfl

/-- The silence counter and what is left outstanding of it. -/
theorem silence_at_frameStart (early order : List Svc) (hv : s.svc n = some v) (hnil : s.frameDue = []) :
    ∃ w, (startFrame early order s).svc n = some w ∧ w.cfg = v.cfg ∧ w.activity = v.activity ∧ w.queue = v.queue ∧
      w.revision = v.revision ∧ w.stats = v.stats ∧ w.contPicture = v.contPicture ∧ w.contEntitle = v.contEntitle ∧
      w.ingest.state = v.ingest.state ∧ w.faults = v.faults ∧ w.ingest = (silenced v).ingest ∧
      (FrameWork.silence n ∈ (startFrame early order s).frameDue ↔ silenceDue n v ≠ []) := by
  obtain ⟨keys, seq, requests, due, ⟨⟨a, hentry⟩, -, hdue⟩, hout⟩ := begun_any early order hv hnil
  refine ⟨_, hentry, rfl, rfl, rfl, rfl, rfl, rfl, rfl, silenced_state v, rfl, rfl, ?_⟩
  rw [mem_frameDue_iff rfl, hdue, List.mem_append, or_iff_left hout]
  unfold silenceDue
  split <;> simp

/-- Settles O39: the ticks of the services stand apart, so that each service is begun by its own silence counter and its
own key work, protection state by protection state. -/
theorem frameStartBeginsTheFrame : Obligations.FrameStartBeginsTheFrame := by
  refine ⟨fun s early order hrest hslot => ?_, fun s t early order n v hrest hslot hexec hv => ?_⟩
  · have hrest' := sameBesidesTicks_startFrame early order s
    have hmux : (startFrame early order s).frameStruct = newFrameStruct s := congrArg State.frameStruct hrest'
    have hframe : (startFrame early order s).frameNumber = newFrameNumber s := congrArg State.frameNumber hrest'
    refine ⟨_, exec_frameStart hrest hslot, hframe, congrArg State.frameBegun hrest', hmux,
      congrArg State.adoptionPending hrest', fun h => ?_, ?_, fun n hn => (startFrame_none early order hn).1,
      fun n v hv => ?_, ?_⟩
    · rw [hmux] at h
      exact (congrArg State.slotIndex hrest').trans (nextSlot_zero h)
    · rw [hframe, hmux]
      exact (congrArg State.outCell hrest').trans (bytes_syncCell _ _ _)
    · obtain ⟨w, hw, hcfg, hact, hqueue, hrev, hstats, hpicture, hentitle, hstate, hfaults, hingest, hmem⟩ :=
        silence_at_frameStart early order hv hrest.2
      refine ⟨w, hw, hcfg, hact, hqueue, hrev, hstats, hpicture, hentitle, hstate, hfaults, fun hact hmark => ?_,
        fun hstands => ?_⟩
      · rw [hingest, hmem]
        refine ⟨fun hz => ?_, fun hz => ?_⟩
        · obtain ⟨hi, hd⟩ := (silenced_counts (n := n) v hact hmark).1 hz
          rw [hi, hd]
          exact ⟨rfl, hmark, fun h => h rfl⟩
        · obtain ⟨hi, hd⟩ := (silenced_counts (n := n) v hact hmark).2 hz
          rw [hi, hd]
          exact ⟨rfl, rfl, List.cons_ne_nil _ _⟩
      · obtain ⟨hi, hd⟩ := silenced_stands (n := n) hstands
        rw [hingest, hmem, hi, hd]
        exact ⟨rfl, fun h => h rfl⟩
    · rw [hrest']
      rfl
  · rw [exec_frameStart hrest hslot] at hexec
    obtain rfl := Host.Outcome.next.inj hexec
    intro reloads timed waiting ready counted' stepped wanted asks asksAgain ofService keyWork
    have hreloads : v.timed = true ↔ reloads := timed_iff v
    have hwaits : waiting ↔ waits v := by simp only [waits, waiting, hreloads]
    have hsteps : timed ↔ steps v := by simp only [steps, timed, hreloads]
    have hframe : (startFrame early order s).frameNumber = newFrameNumber s :=
      congrArg State.frameNumber (sameBesidesTicks_startFrame early order s)
    obtain ⟨w, hw, -⟩ := silence_at_frameStart early order hv hrest.2
    refine ⟨w, hw, fun h => ?_, fun hact hprot => ?_⟩
    · have hbegun := begun_of_not_keyed early order hv hrest.2 (not_keyed_of h)
      obtain ⟨hkeys, hseq⟩ := hbegun.keys_eq hw
      refine ⟨hkeys, hseq, hbegun.requests, ?_, ?_⟩
      · show (startFrame early order s).frameDue.filter (isKeyWork n) = []
        rw [filter_isKeyWork_frameDue, hbegun.due, List.append_nil, filter_silenceDue]
      · rw [mem_frameDue_iff rfl, hbegun.due, List.append_nil]
        exact mem_silenceDue n n v
    · have hkeyed := keyed_of hact hprot
      refine ⟨?_, fun hblackout => ?_, fun h => ?_, fun h hready => ?_, fun h hready => ?_⟩
      · obtain ⟨_, _, _, _, hbegun, hdue⟩ := begun_of_keyed early order hv hrest.2 hkeyed
        exact hbegun.countdown_mem hdue
      · have hnot : ¬ steps v ∧ ¬ waits v := by simp [steps, waits, hblackout]
        have hbegun := begun_of_idle early order hv hrest.2 hkeyed hnot.1 hnot.2
        obtain ⟨hkeys, hseq⟩ := hbegun.keys_eq hw
        rw [← List.append_nil (countdownDue n v)] at hbegun
        exact ⟨hkeys, hseq, hbegun.requests, hbegun.keyWork fun _ h => nomatch h⟩
      · obtain ⟨hbegun, hattn⟩ := begun_of_steps early order hv hrest.2 hkeyed (hsteps.mp h)
        obtain ⟨hkeys, hseq⟩ := hbegun.keys_eq hw
        refine ⟨hkeys, hseq, hbegun.requests, hattn, (hbegun.keyWork (isKeyWork_timerExpiry n v)).trans ?_⟩
        by_cases hzero : stepped.count = 0
        · have hexpiry : [timerExpiry n v] = if v.keys.prot = some .window then [.window n] else [.period n] :=
            apply_ite (fun w => [w]) _ _ _
          exact (if_pos hzero).trans (hexpiry.trans (if_neg (not_not.mpr hzero)).symm)
        · exact (if_neg hzero).trans (if_pos hzero).symm
      · have hbegun := begun_of_ready early order hv hrest.2 hkeyed (hwaits.mp h) ((ready_iff v).mpr hready)
        obtain ⟨hkeys, hseq⟩ := hbegun.keys_eq hw
        rw [← List.append_nil (countdownDue n v)] at hbegun
        refine ⟨?_, hseq, hbegun.keyWork (fun _ h => nomatch h), hbegun.requests.trans ?_⟩
        · rw [hkeys, hframe]
          exact changedKeys_counted v _ hreloads
        · exact if_congr (and_congr_left' hreloads) rfl rfl
      · have hbegun := begun_of_not_ready early order hv hrest.2 hkeyed (hwaits.mp h) fun hr => hready ((ready_iff v).mp hr)
        obtain ⟨hkeys, hseq⟩ := hbegun.keys_eq hw
        exact ⟨hkeys, hseq, hbegun.requests, hbegun.keyWork (isKeyWork_deferralDue n v)⟩

end Sys2Proof.Proofs
end


section
/-! PROOF. The abandonment of a picture and the silence expiry (R37, R84, R87, R88). -/

namespace Sys2Proof.Proofs
open Sys2Proof.Machine

variable {s t u : State} {n : Svc} {v : Service} {p : OpenPicture}

theorem modSvc_putSvc (n : Svc) (v : Service) (f : Service → Service) (s : State) :
    (s.putSvc n (some v)).modSvc n f = s.putSvc n (some (f v)) := by
  rw [State.modSvc_some _ n f v (svc_putSvc_self _ _ _), putSvc_putSvc]

/-- The abandonment of an open picture (R84, R87, R88). -/
theorem abandonPicture_eq (hv : s.svc n = some v) (hp : v.ingest.state = .inPicture p) :
    abandonPicture n s = ({ s with quant := s.quant.dropUser p.bank } : State).putSvc n (some
      { v with queue := v.lossQueue p, ingest := { v.ingest with state := s.abandonedState n } }) := by
  rw [abandonPicture, hv]
  dsimp only
  rw [hp]
  dsimp only
  rw [State.modSvc_some ({ s with quant := s.quant.dropUser p.bank } : State) n _ v hv]
  unfold Service.lossQueue recordLoss State.modQueue
  cases hfirst : p.firstCell with
  | unwritten =>
    rw [modSvc_putSvc, if_pos rfl]
    rfl
  | queued index | sent index =>
    rw [if_neg (by simp)]
    exact modSvc_putSvc _ _ _ _

/-- A service after its silence expiry, with the queue and the ingest state an abandonment has left (R37). -/
def stalled (v : Service) (frame : Word) (q : QueueDesc) (st : IngestState) : Service :=
  { v with
    activity := if v.activity = .running then .stalled else v.activity
    faults := v.faults.raise .inputLost frame
    queue := q
    ingest := { v.ingest with state := st } }

theorem silenceExpiry_putSvc (s : State) (n : Svc) (v : Service) :
    (raiseFault n .inputLost (s.putSvc n (some v))).modSvc n (fun v =>
        if v.activity = .running then { v with activity := .stalled } else v) =
      ({ s with ctlAttn := s.ctlAttn || v.faults.entries.isEmpty } : State).putSvc n (some
        (stalled v s.frameNumber v.queue v.ingest.state)) := by
  rw [raiseFault_putSvc, modSvc_putSvc]
  by_cases hrun : v.activity = .running
  · simp only [stalled, if_pos hrun]
  · simp only [stalled, if_neg hrun]

/-- The silence expiry of a service without an open picture. -/
theorem silenceExpiry_of_closed (hv : s.svc n = some v) (hp : v.picture = none) :
    silenceExpiry n s = ({ s with ctlAttn := s.ctlAttn || v.faults.entries.isEmpty } : State).putSvc n (some
      (stalled v s.frameNumber v.queue v.ingest.state)) := by
  rw [silenceExpiry, picture_of_svc hv, hp]
  dsimp only
  rw [← silenceExpiry_putSvc, putSvc_self hv]

/-- The silence expiry of a service with an open picture. -/
theorem silenceExpiry_of_open (hv : s.svc n = some v) (hp : v.ingest.state = .inPicture p) :
    silenceExpiry n s =
      ({ s with
        quant := s.quant.dropUser p.bank, packer := (breakClose n (abandonPicture n s)).packer
        ctlAttn := s.ctlAttn || v.faults.entries.isEmpty } : State).putSvc n (some
          (stalled v s.frameNumber (v.lossQueue p) (s.abandonedState n))) := by
  rw [silenceExpiry, picture_of_svc hv, picture_of_state hp]
  dsimp only
  rw [breakClose_eq]
  rw [show ({ abandonPicture n s with packer := (breakClose n (abandonPicture n s)).packer } : State) =
      ({ s with quant := s.quant.dropUser p.bank, packer := (breakClose n (abandonPicture n s)).packer } : State).putSvc n
        (some { v with queue := v.lossQueue p, ingest := { v.ingest with state := s.abandonedState n } }) by
    generalize (breakClose n (abandonPicture n s)).packer = work
    rw [abandonPicture_eq hv hp]
    rfl]
  exact silenceExpiry_putSvc _ _ _

theorem silenceExpiry_none (hv : s.svc n = none) : silenceExpiry n s = s := by
  have hpic : s.picture n = none := by rw [State.picture, hv]
  rw [silenceExpiry, hpic]
  dsimp only
  rw [raiseFault_none n _ s hv, modSvc_none hv]

/-- The Packer's work after the picture it is closing for service `n` has been abandoned (R37). -/
def brokenWork (n : Svc) (p : OpenPicture) : Option PackerWork → Option PackerWork
  | some { record := .picTail m number, phase := .closing short } =>
    some { record := .picTail m number, phase := if m = n then .passing else .closing short }
  | some { record := .picHead m number kind stripes bps c, phase := .closing short } =>
    some
      { record := .picHead m number kind stripes bps c
        phase := if m ≠ n then .closing short else if p.firstCell = .unwritten then .opening else .held false }
  | other => other

theorem withdrawing_abandoned (hv : s.svc n = some v) (hp : v.ingest.state = .inPicture p)
    (hw : v.queue.withdrawal = none) :
    (abandonPicture n s).withdrawing n = decide (p.firstCell ≠ .unwritten) := by
  rw [abandonPicture_eq hv hp, State.withdrawing, svc_putSvc_self]
  dsimp only
  unfold Service.lossQueue
  split
  · next h => simp [h, hw]
  · next h => simp [h]

theorem abandonPicture_packer (n : Svc) (s : State) : (abandonPicture n s).packer = s.packer := by
  rw [(abandonPicture_cellWork n s).2]

/-- A work that closes no picture of service `n` stands. -/
theorem breakClose_of_other (h : s.closingByTail n = false) (h' : s.closingByHead n = false) : breakClose n s = s := by
  rw [breakClose, h, h']
  rfl

theorem closing_congr (h : t.packer = s.packer) (n : Svc) :
    t.closingByTail n = s.closingByTail n ∧ t.closingByHead n = s.closingByHead n := by
  rw [State.closingByTail, State.closingByTail, State.closingByHead, State.closingByHead, h]
  exact ⟨rfl, rfl⟩

theorem setPhase_packer {w : PackerWork} (ph : WorkPhase) (h : s.packer = some w) :
    (setPhase ph s).packer = some { w with phase := ph } := by
  rw [setPhase, h]

theorem breakClose_packer (hv : s.svc n = some v) (hp : v.ingest.state = .inPicture p) (hw : v.queue.withdrawal = none) :
    (breakClose n (abandonPicture n s)).packer = brokenWork n p s.packer := by
  have hpacker := abandonPicture_packer n s
  obtain ⟨htail, hhead⟩ := closing_congr hpacker n
  have hother (h : s.closingByTail n = false) (h' : s.closingByHead n = false)
      (hwork : brokenWork n p s.packer = s.packer) :
      (breakClose n (abandonPicture n s)).packer = brokenWork n p s.packer := by
    rw [breakClose_of_other (htail.trans h) (hhead.trans h'), hpacker, hwork]
  cases hwork : s.packer with
  | none =>
    rw [← hwork]
    exact hother (by simp [State.closingByTail, hwork]) (by simp [State.closingByHead, hwork]) (by rw [hwork]; rfl)
  | some w =>
    obtain ⟨record, phase⟩ := w
    cases phase with
    | held | opening | coding | passing =>
      rw [← hwork]
      refine hother ?_ ?_ ?_
      · cases record <;> simp [State.closingByTail, hwork]
      · cases record <;> simp [State.closingByHead, hwork]
      · cases record <;> rw [hwork] <;> rfl
    | closing short =>
      rw [hwork] at hpacker
      cases record with
      | blocks m data =>
        rw [← hwork]
        exact hother (by simp [State.closingByTail, hwork]) (by simp [State.closingByHead, hwork]) (by rw [hwork]; rfl)
      | picTail m number =>
        have htail' : s.closingByTail n = (m == n) := by simp [State.closingByTail, hwork]
        by_cases hm : m = n
        · rw [breakClose, htail, htail', beq_iff_eq.mpr hm, if_pos rfl, setPhase_packer _ hpacker]
          simp [brokenWork, hm]
        · rw [← hwork]
          exact hother (htail'.trans (beq_eq_false_iff_ne.mpr hm)) (by simp [State.closingByHead, hwork])
            (by rw [hwork]; simp [brokenWork, hm])
      | picHead m number kind stripes bps c =>
        have htail' : s.closingByTail n = false := by simp [State.closingByTail, hwork]
        have hhead' : s.closingByHead n = (m == n) := by simp [State.closingByHead, hwork]
        by_cases hm : m = n
        · rw [breakClose, htail, htail', hhead, hhead', beq_iff_eq.mpr hm, if_neg Bool.false_ne_true, if_pos rfl,
            setPhase_packer _ hpacker, withdrawing_abandoned hv hp hw]
          by_cases hfirst : p.firstCell = .unwritten <;> simp [brokenWork, hm, hfirst]
        · rw [← hwork]
          exact hother htail' (hhead'.trans (beq_eq_false_iff_ne.mpr hm)) (by rw [hwork]; simp [brokenWork, hm])

/-- The Packer is closing the open picture of a service by the picture's own tail. -/
def ownTail (n : Svc) (work : Option PackerWork) : Prop :=
  match work with
  | some { record := .picTail m _, phase := .closing _ } => m = n
  | _ => False

theorem closingByTail_iff (s : State) (n : Svc) : s.closingByTail n = true ↔ ownTail n s.packer := by
  cases hwork : s.packer with
  | none => simp [State.closingByTail, ownTail, hwork]
  | some w =>
    obtain ⟨record, phase⟩ := w
    cases record <;> cases phase <;> simp [State.closingByTail, ownTail, hwork]

theorem abandonedState_of_tail (h : ownTail n s.packer) : s.abandonedState n = .idle :=
  if_pos ((closingByTail_iff s n).mpr h)

theorem abandonedState_of_no_tail (h : ¬ ownTail n s.packer) : s.abandonedState n = .discarding :=
  if_neg fun h' => h ((closingByTail_iff s n).mp h')

theorem exec_packerRecordWork (hrest : s.atRest) (k : Nat) :
    exec (.packerRecordWork k) s = .next (runStages k s) := by
  have h : exec (.packerRecordWork k) s = .next (operate (runStages k) s) := rfl
  rw [h, operate_of_rest _ _ hrest.1 hrest.2]

theorem packerStage_of_none (h : s.packer = none) : packerStage s = s := by rw [packerStage, h]

theorem runStages_of_none (k : Nat) (h : s.packer = none) : runStages k s = s := by
  induction k with
  | zero => rfl
  | succ k ih => rw [runStages, packerStage_of_none h, ih]

theorem finishRecord_eq {w : PackerWork} (h : s.packer = some w) : s.finishRecord = s.recordDone := by
  rw [State.finishRecord, h]
  rfl

/-- A stage that ends the work on a record leaves nothing to the stages after it. -/
theorem runStages_of_done (k : Nat) (h : packerStage s = t) (hdone : t.packer = none) : runStages (k + 1) s = t := by
  rw [runStages, h, runStages_of_none k hdone]

/-- Settles O40: the expiry abandons an open picture and then raises the fault, and the Packer's close of that picture
breaks off by the kind of its record. -/
theorem silenceExpiryStallsTheService : Obligations.SilenceExpiryStallsTheService := by
  refine ⟨fun s n v hrst hdue hv => ?_, fun s w k hrest hwork hphase => ?_⟩
  · have hexec : exec (.silenceExpiry n) s = .next (silenceExpiry n { s with frameDue := s.frameDue.erase (.silence n) }) :=
      exec_expiry (c := .silenceExpiry n) rfl hrst hdue
    intro u w
    refine ⟨fun hp => ?_, fun p hp hw => ?_⟩
    · rw [hexec, silenceExpiry_of_closed (s := { s with frameDue := s.frameDue.erase (.silence n) }) hv hp]
      rfl
    · intro byTail work dropped left
      have hopen := silenceExpiry_of_open (s := { s with frameDue := s.frameDue.erase (.silence n) }) hv hp
      rw [breakClose_packer (s := { s with frameDue := s.frameDue.erase (.silence n) }) hv hp hw] at hopen
      refine ⟨fun htail => ?_, fun htail => ?_⟩
      · rw [hexec, hopen, abandonedState_of_tail (s := { s with frameDue := s.frameDue.erase (.silence n) }) htail]
        rfl
      · rw [hexec, hopen, abandonedState_of_no_tail (s := { s with frameDue := s.frameDue.erase (.silence n) }) htail]
        rfl
  · have hdone : packerStage s = s.recordDone := by
      rw [← finishRecord_eq hwork, packerStage, hwork]
      dsimp only
      rcases hphase with hphase | ⟨⟨rest, excess, hphase⟩, hclosed⟩
      · rw [hphase]
      · rw [hphase]
        have hpic : s.picture w.record.service = none := by
          rw [State.picture]
          split
          · next v hv => exact hclosed v hv
          · rfl
        dsimp only
        unfold codingStage
        rw [hpic]
    rw [exec_packerRecordWork hrest, runStages_of_done k hdone rfl]

end Sys2Proof.Proofs
end


section
/-! PROOF. The key contexts (R133, R161): the law of the protection states, the outstanding key work of a frame start, and
the laws of the power-on state. -/

namespace Sys2Proof.Proofs
open Sys2Proof.Machine

variable {sc : Scope} {s t u : State} {n m : Svc} {v : Service} {w : FrameWork}

/-! ## The protection states under moves -/

/-- Moves that keep the protection states lawful; the outstanding work of a frame start stays as it is. -/
def lawfulMove : Scope := { strict := True, rekeys := True, loads := True, notes := False }

/-- Moves that keep the protection states lawful, a frame start's among them. -/
def lawfulTick : Scope := { lawfulMove with notes := True }

/-- R133 and R161 for every service. -/
def protectionLaws (s : State) : Prop := ∀ n : Svc, ∀ v ∈ s.svc n, v.protectionLaw

theorem protectionLaw_toDefined (v : Service) : v.toDefined.protectionLaw :=
  ⟨⟨fun _ => rfl, fun _ => rfl⟩, fun h => absurd rfl h, fun h => by simp [Service.toDefined] at h⟩

theorem protectionLaw_created (c : SvcConfig) : (Service.created c).protectionLaw :=
  ⟨⟨fun _ => rfl, fun _ => rfl⟩, fun h => absurd rfl h, fun h => by simp [Service.created, KeyCtx.created] at h⟩

theorem modified_prot (v : Service) (mask : BitVec 24) (b : CfgBlock) :
    (v.modified mask b).keys.prot = v.keys.prot := by
  unfold Service.modified
  dsimp only
  split <;> rfl

/-- An accepted SVC_MODIFY leaves the protection and the keys of a participant alone (R10). -/
theorem modified_of_participant {mask : BitVec 24} (b : CfgBlock) (hpart : v.participant = true)
    (hlive : (v.participant && nonLiveFields.any (selects mask)) = false) :
    (v.modified mask b).keys = v.keys ∧ (v.modified mask b).cfg.protection = v.cfg.protection := by
  rw [hpart, Bool.true_and] at hlive
  have hnot : ∀ i ∈ nonLiveFields, selects mask i = false := by simpa using hlive
  have h2 : selects mask 2 = false := hnot 2 (by decide)
  have h18 : selects mask 18 = false := hnot 18 (by decide)
  simp [Service.modified, SvcConfig.overlay, h2, h18]

theorem protectionLaw_modified {mask : BitVec 24} (b : CfgBlock)
    (hlive : (v.participant && nonLiveFields.any (selects mask)) = false) (h : v.protectionLaw) :
    (v.modified mask b).protectionLaw := by
  by_cases hpart : v.participant = true
  · obtain ⟨hkeys, hprot⟩ := modified_of_participant b hpart hlive
    rw [Service.protectionLaw, hkeys, hprot]
    exact h
  · have hnone : (v.modified mask b).keys.prot = none := by
      rw [modified_prot]
      exact h.1.mp (activity_of_not_participant hpart)
    rw [Service.protectionLaw, hnone]
    refine ⟨⟨fun _ => rfl, fun _ => activity_of_not_participant hpart⟩, fun h => absurd rfl h, fun h => by simp at h⟩

/-- A lawful change of an entry keeps the law of its protection state. -/
theorem Change.keeps_protectionLaw (hstrict : sc.strict) {o o' : Option Service} (h : Change sc o o')
    (ho : ∀ v ∈ o, v.protectionLaw) : ∀ v ∈ o', v.protectionLaw := by
  cases h with
  | same => exact ho
  | edit h =>
    intro w hw
    obtain rfl := Option.some.inj hw
    exact h.protection hstrict (ho _ rfl)
  | @opened v | @closed v | fault v | appended v | acknowledged v =>
    intro w hw
    obtain rfl := Option.some.inj hw
    exact ho v rfl
  | ended =>
    intro w hw
    obtain rfl := Option.some.inj hw
    exact protectionLaw_toDefined _
  | started _ hprot _ =>
    intro w hw
    obtain rfl := Option.some.inj hw
    exact hprot hstrict (ho _ rfl)
  | created =>
    intro w hw
    obtain rfl := Option.some.inj hw
    exact protectionLaw_created _
  | modified _ hlive _ =>
    intro w hw
    obtain rfl := Option.some.inj hw
    exact protectionLaw_modified _ hlive (ho _ rfl)
  | emptied => exact fun w hw => nomatch hw

theorem Moves.keeps_protectionLaws (hstrict : sc.strict) (h : Moves sc s t) (hs : protectionLaws s) :
    protectionLaws t :=
  h.keeps (P := protectionLaws) (fun _ _ hmove => hmove.keeps_entries fun hc => hc.keeps_protectionLaw hstrict) hs

/-- Only a frame start notes work: other moves leave the outstanding work as it is, or clear it. -/
theorem Move.frameDue (hn : ¬ sc.notes) (h : Move sc s t) : t.frameDue = s.frameDue ∨ t.frameDue = [] := by
  cases h with
  | quiet _ _ hdue => exact .inl (hdue.resolve_left hn)
  | cleared => exact .inr rfl
  | fault n code =>
    rw [(raiseFault_cellWork n code s).2]
    exact .inl rfl
  | check =>
    rw [recordCheck_eq]
    exact .inl rfl
  | appended h =>
    rw [(appendCell_cellWork _ _ _ _ h).2]
    exact .inl rfl
  | released | acknowledged | checkCleared =>
    unfold dropCtlAttn
    split <;> exact .inl rfl
  | _ => exact .inl rfl

theorem Moves.frameDue_eq_nil (hn : ¬ sc.notes) (h : Moves sc s t) (hs : s.frameDue = []) : t.frameDue = [] :=
  h.keeps (P := fun s => s.frameDue = []) (fun _ _ hmove hs => (hmove.frameDue hn).elim (fun h => h.trans hs) id) hs

theorem keysLaw_of_nil (h : protectionLaws s) (hnil : s.frameDue = []) : s.keysLaw := by
  refine ⟨h, ?_, ?_⟩
  · rw [hnil]
    exact fun w hw => nomatch hw
  · rw [hnil]
    exact List.nodup_nil

/-! ## Outstanding work taken -/

/-- The protection state of a service, if it has an entry. -/
def protOf (s : State) (n : Svc) : Option (Option ProtState) := (s.svc n).map fun v => v.keys.prot

theorem protOf_putSvc_self (hv : s.svc n = some v) {w : Service} (h : w.keys.prot = v.keys.prot) :
    protOf (s.putSvc n (some w)) m = protOf s m := by
  rw [protOf, protOf, State.svc_putSvc]
  split
  · next hm => rw [hm, hv, Option.map_some, Option.map_some, h]
  · rfl

/-- Outstanding work leaves the protection state of every service alone but of the one whose key work it is. -/
theorem takeWork_protOf (h : w.keyService ≠ some m) (s : State) : protOf (takeWork w s) m = protOf s m := by
  have hother {n : Svc} {t : State} (hwork : s.keyWork n t) (hne : some n ≠ some m) : protOf t m = protOf s m := by
    rw [protOf, hwork.1 m fun he => hne (by rw [he])]
    rfl
  cases w with
  | period n => exact hother (periodExpiry_keyWork n s) h
  | window n => exact hother (windowExpiry_keyWork n s) h
  | deferral n => exact hother (deferralExpiry_keyWork n s) h
  | silence n =>
    show protOf (silenceExpiry n s) m = protOf s m
    cases hv : s.svc n with
    | none => rw [silenceExpiry_none hv]
    | some v =>
      cases hp : v.picture with
      | none =>
        rw [silenceExpiry_of_closed hv hp]
        exact protOf_putSvc_self (s := { s with ctlAttn := _ }) hv rfl
      | some p =>
        rw [silenceExpiry_of_open hv (state_of_picture hp)]
        exact protOf_putSvc_self (s := { s with quant := _, packer := _, ctlAttn := _ }) hv rfl
  | countdown n =>
    show protOf (countdownExpiry n s) m = protOf s m
    cases hv : s.svc n with
    | none =>
      have hkeep : countdownExpiry n s = submitEntitlement n s := by rw [countdownExpiry, modSvc_none hv]
      rw [hkeep, submitEntitlement]
      split <;> rfl
    | some v =>
      rw [countdownExpiry_eq hv]
      exact protOf_putSvc_self (s := { s with dueList := _ }) hv rfl
  | allocate =>
    show protOf (allocatePeriod s) m = protOf s m
    rw [protOf, allocatePeriod_svc, Option.map_map, protOf]
    refine congrFun (congrArg Option.map (funext fun v => ?_)) _
    dsimp only [Function.comp]
    split <;> rfl

theorem workLaw_iff (s : State) (w : FrameWork) :
    s.workLaw w ↔ match w with
      | .period n => protOf s n = some (some .scrambled)
      | .window n => protOf s n = some (some .window)
      | .deferral n => protOf s n = some (some .deferred)
      | .silence _ | .countdown _ | .allocate => True := by
  cases w <;> simp [State.workLaw, protOf, Option.map_eq_some_iff, Option.mem_def]

theorem workLaw_congr (h : ∀ n, w.keyService = some n → protOf t n = protOf s n) (hs : s.workLaw w) : t.workLaw w := by
  rw [workLaw_iff] at hs ⊢
  cases w with
  | silence | countdown | allocate => trivial
  | period n | window n | deferral n => exact (h n rfl).trans hs

theorem takeWork_protectionLaws (hs : protectionLaws s) (hw : s.workLaw w) : protectionLaws (takeWork w s) :=
  Moves.keeps_protectionLaws (sc := lawfulMove) trivial (takeWork_moves w s trivial fun _ => hw) hs

/-- Two pieces of work on the protection state of one service do not stand side by side. -/
theorem keyService_ne {l : List FrameWork} (h : ((w :: l).filterMap FrameWork.keyService).Nodup) {x : FrameWork}
    (hx : x ∈ l) (hkey : x.keyService = some n) : w.keyService ≠ some n := by
  intro hw
  rw [List.filterMap_cons, hw] at h
  exact (List.nodup_cons.mp h).1 (List.mem_filterMap.mpr ⟨x, hx, hkey⟩)

theorem nodup_keyServices_tail {l : List FrameWork} (h : ((w :: l).filterMap FrameWork.keyService).Nodup) :
    (l.filterMap FrameWork.keyService).Nodup := by
  rw [List.filterMap_cons] at h
  split at h
  · exact h
  · exact (List.nodup_cons.mp h).2

/-- The laws of what is left outstanding once the first piece has been taken. -/
theorem workLaw_takeWork {l : List FrameWork} (hl : ∀ x ∈ w :: l, s.workLaw x)
    (hnodup : ((w :: l).filterMap FrameWork.keyService).Nodup) : ∀ x ∈ l, (takeWork w s).workLaw x :=
  fun x hx => workLaw_congr (fun _ hkey => takeWork_protOf (keyService_ne hnodup hx hkey) s)
    (hl x (List.mem_cons_of_mem w hx))

theorem foldl_takeWork_protectionLaws (l : List FrameWork) (s : State) (hs : protectionLaws s)
    (hl : ∀ w ∈ l, s.workLaw w) (hnodup : (l.filterMap FrameWork.keyService).Nodup) :
    protectionLaws (l.foldl (fun t w => takeWork w t) s) := by
  induction l generalizing s with
  | nil => exact hs
  | cons w l ih =>
    exact ih _ (takeWork_protectionLaws hs (hl w List.mem_cons_self)) (workLaw_takeWork hl hnodup)
      (nodup_keyServices_tail hnodup)

/-- Once the outstanding work is taken, the key contexts are in order. -/
theorem settle_protectionLaws (h : s.keysLaw) : protectionLaws (settle s) := by
  obtain ⟨hprot, hwork, hnodup⟩ := h
  exact foldl_takeWork_protectionLaws s.frameDue { s with frameDue := [] } hprot hwork hnodup

theorem takeOutstanding_keysLaw (w : FrameWork) (h : s.keysLaw) : (takeOutstanding w s).keysLaw := by
  unfold takeOutstanding
  split
  · next hmem =>
    obtain ⟨hprot, hwork, hnodup⟩ := h
    have hperm := List.perm_cons_erase hmem
    have hwork' : ∀ x ∈ w :: s.frameDue.erase w, s.workLaw x := fun x hx => hwork x (hperm.mem_iff.mpr hx)
    have hnodup' := (hperm.filterMap FrameWork.keyService).nodup_iff.mp hnodup
    have hdue : (takeWork w { s with frameDue := s.frameDue.erase w }).frameDue = s.frameDue.erase w :=
      (takeWork_rest w _).1
    refine ⟨takeWork_protectionLaws (s := { s with frameDue := s.frameDue.erase w }) hprot (hwork w hmem), ?_, ?_⟩
    · rw [hdue]
      exact workLaw_takeWork (s := { s with frameDue := s.frameDue.erase w }) hwork' hnodup'
    · rw [hdue]
      exact nodup_keyServices_tail hnodup'
  · exact h

/-! ## The frame start -/

theorem count_filterMap_keyService (n : Svc) (l : List FrameWork) :
    (l.filterMap FrameWork.keyService).count n = (l.filter (isKeyWork n)).length := by
  induction l with
  | nil => rfl
  | cons w l ih =>
    rw [List.filterMap_cons, List.filter_cons]
    cases w with
    | silence k | countdown k | allocate => simpa [FrameWork.keyService, isKeyWork] using ih
    | period k | window k | deferral k =>
      by_cases hk : k = n <;> simp [FrameWork.keyService, isKeyWork, hk, ih]

theorem keyService_eq_some_iff (w : FrameWork) (n : Svc) : w.keyService = some n ↔ isKeyWork n w = true := by
  cases w <;> simp [FrameWork.keyService, isKeyWork]

/-- The key work that a frame start leaves of one service: at most one piece, which stands for the protection state that
the service has kept. -/
theorem startFrame_keyWork (early order : List Svc) (hnil : s.frameDue = []) (n : Svc) :
    ((startFrame early order s).frameDue.filter (isKeyWork n)).length ≤ 1 ∧
      ∀ w ∈ (startFrame early order s).frameDue.filter (isKeyWork n), (startFrame early order s).workLaw w := by
  have hnone (h : (startFrame early order s).frameDue.filter (isKeyWork n) = []) :
      ((startFrame early order s).frameDue.filter (isKeyWork n)).length ≤ 1 ∧
        ∀ w ∈ (startFrame early order s).frameDue.filter (isKeyWork n), (startFrame early order s).workLaw w := by
    rw [h]
    exact ⟨Nat.zero_le 1, fun w hw => nomatch hw⟩
  cases hv : s.svc n with
  | none =>
    refine hnone ?_
    rw [filter_isKeyWork_frameDue, (startFrame_none early order hv).2, dueOf, hnil]
    rfl
  | some v =>
    by_cases hkeyed : keyed v
    · by_cases hsteps : steps v
      · have hbegun := (begun_of_steps early order hv hnil hkeyed hsteps).1
        rw [hbegun.keyWork (isKeyWork_timerExpiry n v)]
        obtain ⟨a, hentry⟩ := hbegun.entry
        refine ⟨by split <;> simp, fun w hw => ?_⟩
        split at hw
        · rw [List.mem_singleton.mp hw, workLaw_iff, timerExpiry]
          rcases hsteps with hprot | ⟨hprot, -⟩
          · rw [if_pos hprot]
            simp [protOf, hentry, steppedKeys, countedKeys, hprot]
          · rw [if_neg (by rw [hprot]; decide)]
            simp [protOf, hentry, steppedKeys, countedKeys, hprot]
        · cases hw
      · by_cases hwaits : waits v
        · by_cases hready : v.ready = true
          · have hbegun := begun_of_ready early order hv hnil hkeyed hwaits hready
            rw [← List.append_nil (countdownDue n v)] at hbegun
            exact hnone (hbegun.keyWork fun w hw => nomatch hw)
          · have hbegun := begun_of_not_ready early order hv hnil hkeyed hwaits hready
            rw [hbegun.keyWork (isKeyWork_deferralDue n v)]
            obtain ⟨a, hentry⟩ := hbegun.entry
            unfold deferralDue
            refine ⟨by split <;> simp, fun w hw => ?_⟩
            split at hw
            · next hdef =>
              rw [List.mem_singleton.mp hw, workLaw_iff]
              simp [protOf, hentry, waitedKeys, countedKeys, hdef.1]
            · cases hw
        · have hbegun := begun_of_idle early order hv hnil hkeyed hsteps hwaits
          rw [← List.append_nil (countdownDue n v)] at hbegun
          exact hnone (hbegun.keyWork fun w hw => nomatch hw)
    · have hbegun := begun_of_not_keyed early order hv hnil hkeyed
      refine hnone ?_
      rw [filter_isKeyWork_frameDue, hbegun.due, List.append_nil, filter_silenceDue]

theorem startFrame_keysLaw (early order : List Svc) (h : protectionLaws s) (hnil : s.frameDue = []) :
    (startFrame early order s).keysLaw := by
  refine ⟨Moves.keeps_protectionLaws (sc := lawfulTick) trivial (startFrame_moves early order s trivial trivial) h,
    fun w hw => ?_, ?_⟩
  · cases hkey : w.keyService with
    | some n =>
      exact (startFrame_keyWork early order hnil n).2 w
        (List.mem_filter.mpr ⟨hw, (keyService_eq_some_iff w n).mp hkey⟩)
    | none =>
      cases w with
      | silence | countdown | allocate => trivial
      | period | window | deferral => cases hkey
  · exact List.nodup_iff_count_le_one.mpr fun n =>
      (count_filterMap_keyService n _).trans_le (startFrame_keyWork early order hnil n).1

/-! ## Steps -/

theorem protectionLaws_reset : protectionLaws State.reset := entries_reset

theorem keysLaw_of_line {c : Instr} (hline : isLineCommand c = true) (h : exec c s = .next t) (hs : s.keysLaw) :
    t.keysLaw := by
  cases c <;> cases hline
  case powerOn lineHeld =>
    cases h
    exact keysLaw_of_nil protectionLaws_reset rfl
  case resetLine =>
    change execResetLine s = .next t at h
    unfold execResetLine at h
    cases h
    split
    · exact hs
    · exact keysLaw_of_nil protectionLaws_reset rfl
  case resetLineRelease =>
    cases h
    exact hs

theorem keysLaw_of_expiry {c : Instr} (hexp : expiryOf c = some w) (hrst : s.rstAsserted = false)
    (h : exec c s = .next t) (hs : s.keysLaw) : t.keysLaw := by
  have htake (hnext : exec c s = .next (expire w s)) : t.keysLaw := by
    rw [hnext, expire, hrst] at h
    cases h
    exact takeOutstanding_keysLaw w hs
  cases c <;> cases hexp <;> exact htake rfl

/-- A command that is neither the line's nor an expiry finds the outstanding work done. -/
theorem keysLaw_of_command {c : Instr} (hline : isLineCommand c = false) (hexp : expiryOf c = none)
    (hrst : s.rstAsserted = false) (h : exec c s = .next t) (hs : s.keysLaw) : t.keysLaw := by
  have hlaws := settle_protectionLaws hs
  have hnil := (settle_rest s).1
  by_cases hnote : mayNote c
  · cases c with
    | frameStart early order =>
      rw [operate_next (f := fun t => if t.slotIndex = 0 then startFrame early order t else t) rfl hrst h]
      split
      · exact startFrame_keysLaw early order hlaws hnil
      · exact keysLaw_of_nil hlaws hnil
    | _ => exact hnote.elim
  · have hmoves : Moves lawfulMove (settle s) t :=
      exec_moves c hline hexp hrst (fun _ => trivial) (fun _ => trivial) hnote h
    exact keysLaw_of_nil (hmoves.keeps_protectionLaws trivial hlaws) (hmoves.frameDue_eq_nil id hnil)

/-- Settles O55: outstanding key work is part of the invariant, at most one piece for a service, each of which finds its
service in the protection state it was noted for. -/
theorem stepKeepsTheKeyContexts : Obligations.StepKeepsTheKeyContexts := by
  intro s t hs h
  rcases step_cases h with rfl | ⟨c, rest, -, hexec⟩
  · exact hs
  · have hrest : State.keysLaw { s with pending := rest } := hs
    generalize ({ s with pending := rest } : State) = u at hexec hrest
    cases hline : isLineCommand c with
    | true => exact keysLaw_of_line hline hexec hrest
    | false =>
      cases hrst : u.rstAsserted with
      | true =>
        rw [exec_of_asserted c hrst hline] at hexec
        exact Host.Outcome.next.inj hexec ▸ hrest
      | false =>
        cases hexp : expiryOf c with
        | some w => exact keysLaw_of_expiry hexp hrst hexec hrest
        | none => exact keysLaw_of_command hline hexp hrst hexec hrest

/-- Settles O49: the power-on state holds no service, no record and no request. -/
theorem resetMeetsEveryLaw : Obligations.ResetMeetsEveryLaw :=
  ⟨creditLaw_reset, ctlAttnLaw_reset, keyAttnLaw_reset, listsLaw_reset, ringsLaw_reset, usersLaw_reset,
    entries_reset, keysLaw_of_nil protectionLaws_reset rfl, capacityLaw_reset, frameLaw_reset, entries_reset,
    entries_reset, cellSizeLaw_reset⟩

end Sys2Proof.Proofs
end


section
/-! PROOF. The slots of a frame (R113, R116 to R126): the bytes of a cell, the searches, and the cell a slot carries. -/

namespace Sys2Proof.Proofs
open Sys2Proof.Machine

variable {s t u : State} {n m : Svc} {v : Service} {ecc : EccResult}

/-! ## The bytes of a cell (R112, R190) -/

/-- Header bytes 0 to 2 of a cell whose valid bits fit their field. -/
theorem header_eq (c : OutCell) (h : c.validBits < 1024) :
    c.header = [byteOf (32 * c.kind.number + 2 * c.service.val + c.start.toNat),
      byteOf (128 * c.scrambled.toNat + 64 * c.phase.byte.toNat + 4 * c.continuity.toNat + c.validBits / 256),
      byteOf c.validBits] := by
  rw [OutCell.header, Nat.mod_eq_of_lt (by omega : c.validBits / 256 < 4), Nat.mul_comm c.kind.number,
    Nat.mul_comm c.service.val, Nat.mul_comm c.scrambled.toNat, Nat.mul_comm c.phase.byte.toNat,
    Nat.mul_comm c.continuity.toNat]

theorem bytes_nullCell : nullCell.bytes = [0x20, 0x00, 0x00, 0x43] ++ List.replicate 92 0 := by decide +kernel

/-- The kind, the service and the scrambled mark are read back from header bytes 0 and 1. -/
theorem header_fields (c : OutCell) {h0 h1 : Byte} {rest : List Byte} (h : c.bytes = h0 :: h1 :: rest) :
    h0.toNat / 32 = c.kind.number ∧ h0.toNat / 2 % 16 = c.service.val ∧ (h1.toNat < 128 ↔ c.scrambled = false) := by
  rw [OutCell.bytes, OutCell.header] at h
  simp only [List.cons_append, List.nil_append, List.cons.injEq] at h
  obtain ⟨rfl, rfl, -⟩ := h
  have hkind : c.kind.number ≤ 4 := by cases c.kind <;> decide
  have hservice := c.service.isLt
  have hstart := c.start.toNat_le
  have hphase : c.phase.byte.toNat ≤ 1 := by cases c.phase <;> decide
  have hcont := c.continuity.isLt
  rw [byteOf, BitVec.toNat_ofNat, byteOf, BitVec.toNat_ofNat]
  refine ⟨by omega, by omega, ?_⟩
  cases c.scrambled <;> simp <;> omega

/-! ## The searches (R121 to R123) -/

theorem available_eq_false_of_nothingToSend (h : v.nothingToSend) : v.available = false := by
  unfold Service.available Service.participant
  rcases h with h | h | ⟨h, h'⟩
  · simp [h]
  · simp [h]
  · simp [(ringEmpty_iff v).mpr h, h']

theorem available_of (hact : v.activity ≠ .defined) (hprot : v.keys.prot ≠ none) (hblack : v.keys.prot ≠ some .blackout)
    (hcell : v.queue.read ≠ v.queue.write ∨ v.queue.marker ≠ none) : v.available = true := by
  have hempty : v.ringEmpty = false ∨ v.queue.marker.isSome = true :=
    hcell.imp (fun h => Bool.eq_false_iff.mpr fun he => h ((ringEmpty_iff v).mp he)) Option.isSome_iff_ne_none.mpr
  simp only [Service.available, Service.participant, Bool.and_eq_true, bne_iff_ne, ne_eq, Bool.or_eq_true,
    Bool.not_eq_true', Option.isSome_iff_ne_none]
  exact ⟨⟨⟨hact, hprot⟩, hblack⟩, hempty.imp id Option.isSome_iff_ne_none.mp⟩

/-- A search examines the services from the pointer on, and stops at the first that passes its test. -/
theorem find_searchOrder {test : Svc → Bool} {pointer : Svc} {j : Nat} (hj : j < 16)
    (hyes : test (pointer + Fin.ofNat 16 j) = true) (hno : ∀ i < j, test (pointer + Fin.ofNat 16 i) = false) :
    (searchOrder pointer).find? test = some (pointer + Fin.ofNat 16 j) := by
  have hget : ∀ i : Nat, ∀ hi : i < 16, allServices[i]'hi = Fin.ofNat 16 i := by decide
  unfold searchOrder
  refine List.find?_eq_some_iff_getElem.mpr ⟨hyes, j, by simpa [allServices] using hj, ?_, fun i hi => ?_⟩
  · rw [List.getElem_map]
    exact congrArg (pointer + ·) (hget j hj)
  · have hout : (!test (pointer + allServices[i]'(hi.trans hj))) = true := by
      rw [hget i (hi.trans hj), hno i hi]
      rfl
    rwa [List.getElem_map]

theorem find_searchOrder_eq_none {test : Svc → Bool} (pointer : Svc) (h : ∀ m, test m = false) :
    (searchOrder pointer).find? test = none :=
  List.find?_eq_none.mpr fun m _ => by simp [h m]

/-- The test of the granted search. -/
def grantedTest (s : State) (n : Svc) : Bool :=
  match s.svc n with
  | some v => v.available && 0 < v.alloc.deficit
  | none => false

/-- The test of the surplus search. -/
def surplusTest (s : State) (n : Svc) : Bool :=
  match s.svc n with
  | some v => v.available
  | none => false

theorem grantedTest_eq_false (h : ∀ u ∈ s.svc n, u.alloc.deficit = 0 ∨ u.nothingToSend) : grantedTest s n = false := by
  unfold grantedTest
  split
  · next u hu =>
    rcases h u hu with h | h
    · simp [h]
    · simp [available_eq_false_of_nothingToSend h]
  · rfl

theorem surplusTest_eq_false (h : ∀ u ∈ s.svc n, u.nothingToSend) : surplusTest s n = false := by
  unfold surplusTest
  split
  · next u hu => exact available_eq_false_of_nothingToSend (h u hu)
  · rfl

/-- Where no service has both, the granted search finds none. -/
theorem grantedSearch_eq_none (h : ∀ m, ∀ u ∈ s.svc m, u.alloc.deficit = 0 ∨ u.nothingToSend) : grantedSearch s = none :=
  find_searchOrder_eq_none _ fun m => grantedTest_eq_false (h m)

/-- Where no service has a cell available, the surplus search finds none. -/
theorem surplusSearch_eq_none (h : ∀ m, ∀ u ∈ s.svc m, u.nothingToSend) : surplusSearch s = none :=
  find_searchOrder_eq_none _ fun m => surplusTest_eq_false (h m)

theorem available_of_surplusTest (h : surplusTest s n = true) : ∃ v, s.svc n = some v ∧ v.available = true := by
  unfold surplusTest at h
  split at h
  · next v hv => exact ⟨v, hv, h⟩
  · cases h

theorem available_of_grantedTest (h : grantedTest s n = true) : ∃ v, s.svc n = some v ∧ v.available = true := by
  unfold grantedTest at h
  split at h
  · next v hv => exact ⟨v, hv, (Bool.and_eq_true_iff.mp h).1⟩
  · cases h

/-- A slot is served from a service with a cell available, or carries NULL. -/
theorem fillSlot_cases (ecc : EccResult) (s : State) :
    fillSlot ecc s = .next (s.deliver nullCell.bytes) ∨
      ∃ granted n v, s.svc n = some v ∧ v.available = true ∧ fillSlot ecc s = serveSlot ecc granted n s := by
  unfold fillSlot
  split
  · next n hn =>
    obtain ⟨v, hv, havail⟩ := available_of_grantedTest (List.find?_some hn)
    exact .inr ⟨true, n, v, hv, havail, rfl⟩
  · split
    · next n hn =>
      obtain ⟨v, hv, havail⟩ := available_of_surplusTest (List.find?_some hn)
      exact .inr ⟨false, n, v, hv, havail, rfl⟩
    · exact .inl rfl

/-! ## The pull -/

theorem exec_slotPull (hrest : s.atRest) (hslot : s.slotIndex ≠ 0) : exec (.slotPull ecc) s = pullSlot ecc s := by
  have h : exec (.slotPull ecc) s = execSlotPull ecc s := rfl
  rw [h, execSlotPull, settle_of_nil s hrest.2, hrest.1]
  exact if_neg hslot

/-- The state with the slot index moved on. -/
def slotBegun (s : State) : State :=
  { s with slotIndex := if s.slotIndex + 1 < s.frameStruct.f then s.slotIndex + 1 else 0 }

theorem pullSlot_of_leadIn (h : s.slotIndex < s.frameStruct.l) :
    pullSlot ecc s = .next ((slotBegun s).deliver nullCell.bytes) := if_pos h

theorem pullSlot_of_payload (h : s.frameStruct.l ≤ s.slotIndex) : pullSlot ecc s = payloadSlot ecc (slotBegun s) :=
  if_neg (Nat.not_lt.mpr h)

/-- A payload slot that no ENTITLE cell takes is filled with the head of the due list gone. -/
theorem payloadSlot_of_dueLeft {left : List Svc} (h : s.dueLeft left) :
    payloadSlot ecc s = fillSlot ecc { s with dueList := left } := by
  unfold payloadSlot
  rcases h with ⟨hnil, rfl⟩ | ⟨m, hdue, hkeys⟩
  · rw [hnil]
    dsimp only
    rw [← hnil]
  · rw [hdue]
    dsimp only
    have hnone : ({ s with dueList := left } : State).entitleSlot m = none := by
      unfold State.entitleSlot
      split
      · next u hu =>
        obtain ⟨h0, h1⟩ := hkeys u hu
        have hslot (ph : Phase) : u.keys.slot ph = none := by cases ph <;> assumption
        rw [KeyCtx.entitleSlot, KeyCtx.next, KeyCtx.current, hslot, hslot]
        rfl
      · rfl
    rw [hnone]

theorem payloadSlot_of_entitle {rest : List Svc} {ph : Phase} {x : KeySlot} (hdue : s.dueList = n :: rest)
    (hslot : s.entitleSlot n = some (ph, x)) :
    payloadSlot ecc s = .next (sendEntitle n ph x { s with dueList := rest }) := by
  unfold payloadSlot
  rw [hdue]
  dsimp only
  rw [show ({ s with dueList := rest } : State).entitleSlot n = some (ph, x) from hslot]

/-- An ENTITLE cell sent (R119, R127, R146). -/
theorem sendEntitle_eq {ph : Phase} {x : KeySlot} (hv : s.svc n = some v) (hx : v.keys.slot ph = some x) :
    sendEntitle n ph x s = (s.deliver (entitleCell n ph v.contEntitle x.payload).bytes).putSvc n (some
      { v with
        contEntitle := v.contEntitle + 1
        keys := v.keys.setSlot ph (some { x with sent := min 255 (x.sent + 1) }) }) := by
  rw [sendEntitle, hv]
  dsimp only
  rw [State.modSvc_some (s.deliver (entitleCell n ph v.contEntitle x.payload).bytes) n _ v hv, countSend, modKeys_putSvc]
  dsimp only
  rw [hx]
  rfl

theorem bytes_entitleCell (n : Svc) (ph : Phase) (continuity : BitVec 4) {data : List Byte} (h : data.length ≤ 92) :
    (entitleCell n ph continuity data).bytes =
      [byteOf (128 + 2 * n.val), byteOf (64 * ph.byte.toNat + 4 * continuity.toNat + 8 * data.length / 256),
        byteOf (8 * data.length)]
      ++ [crc8 [byteOf (128 + 2 * n.val), byteOf (64 * ph.byte.toNat + 4 * continuity.toNat + 8 * data.length / 256),
        byteOf (8 * data.length)]] ++ data ++ List.replicate (92 - data.length) 0 := by
  have hheader : (entitleCell n ph continuity data).header =
      [byteOf (128 + 2 * n.val), byteOf (64 * ph.byte.toNat + 4 * continuity.toNat + 8 * data.length / 256),
        byteOf (8 * data.length)] := by
    rw [header_eq _ (show 8 * data.length < 1024 by omega)]
    simp [entitleCell, CellKind.number]
  rw [OutCell.bytes, hheader, List.append_assoc _ data, ← payloadBytes_payloadOfBytes h]
  rfl

/-- Settles O43: the lead-in and the empty searches carry NULL; the head of the due list with a key takes its slot. -/
theorem nullAndEntitleSlots : Obligations.NullAndEntitleSlots := by
  refine ⟨fun s ecc left hrest hslot hcase => ?_, fun s ecc n rest v x next hrest hslot hpayload hdue hv hx hlen => ?_⟩
  · rw [exec_slotPull hrest hslot, ← bytes_nullCell]
    rcases hcase with ⟨hlead, rfl⟩ | ⟨hpayload, hleft, hidle⟩
    · exact pullSlot_of_leadIn hlead
    · rw [pullSlot_of_payload hpayload, payloadSlot_of_dueLeft (s := slotBegun s) hleft, fillSlot,
        grantedSearch_eq_none (s := { slotBegun s with dueList := left }) fun m u hu => .inr (hidle m u hu),
        surplusSearch_eq_none (s := { slotBegun s with dueList := left }) hidle]
      rfl
  · intro ph header
    have hentitle : (slotBegun s).entitleSlot n = some (ph, x) := by
      rw [State.entitleSlot, show (slotBegun s).svc n = some v from hv]
      dsimp only
      rw [KeyCtx.entitleSlot]
      cases next with
      | true => rw [show v.keys.next = some x from hx]; rfl
      | false =>
        obtain ⟨hnext, hcur⟩ : v.keys.next = none ∧ v.keys.current = some x := hx
        rw [hnext, hcur]
        rfl
    have hpresent : v.keys.slot ph = some x := by
      cases next with
      | true => exact hx
      | false => exact (show v.keys.next = none ∧ v.keys.current = some x from hx).2
    rw [exec_slotPull hrest hslot, pullSlot_of_payload hpayload,
      payloadSlot_of_entitle (s := slotBegun s) hdue hentitle,
      sendEntitle_eq (s := { slotBegun s with dueList := rest }) hv hpresent, bytes_entitleCell n ph _ hlen]
    rfl

end Sys2Proof.Proofs
end


section
/-! PROOF. The slot served from a service (R79, R90, R93, R94, R108, R124 to R127, R159), and the laws of R159 and R161. -/

namespace Sys2Proof.Proofs
open Sys2Proof.Machine

variable {s t u : State} {n m : Svc} {v : Service} {ecc : EccResult} {granted : Bool}

/-! ## What a slot served from a service leaves -/

/-- A service from which a slot has been served (R108, R127). -/
def accounted (granted : Bool) (v : Service) : Service :=
  { v with
    contPicture := v.contPicture + 1
    alloc := { v.alloc with deficit := if granted then v.alloc.deficit - 1 else v.alloc.deficit } }

theorem accountSlot_eq (granted : Bool) (hv : s.svc n = some v) :
    accountSlot granted n s = ({ s with rrPointer := n + 1 } : State).putSvc n (some (accounted granted v)) :=
  State.modSvc_some ({ s with rrPointer := n + 1 } : State) n _ v hv

theorem recordCheck_putSvc (c : CheckClass) (service : Option Svc) (cell : Option Nat) (s : State) (n : Svc)
    (o : Option Service) : recordCheck c service cell (s.putSvc n o) = (recordCheck c service cell s).putSvc n o := by
  rw [recordCheck_eq, recordCheck_eq]
  rfl

theorem recordCheck_deliver (c : CheckClass) (service : Option Svc) (cell : Option Nat) (s : State) (bytes : List Byte) :
    (recordCheck c service cell s).deliver bytes = recordCheck c service cell (s.deliver bytes) := by
  rw [recordCheck_eq, recordCheck_eq]
  rfl

theorem sendMarker_eq (hv : s.svc n = some v) (x : Marker) :
    sendMarker granted n v x s =
      (({ s with rrPointer := n + 1 } : State).deliver (gapOut v.contPicture (x.gapCell n)).bytes).putDrained n
        { accounted granted v with queue := { v.queue with marker := none } } := by
  rw [← drainTest_putSvc, sendMarker, accountSlot_eq granted hv, State.modQueue, modSvc_putSvc]
  rfl

theorem takeHead_taken (granted : Bool) (hv : s.svc n = some v) :
    (accountSlot granted n s).modSvc n Service.takeHead =
      ({ s with rrPointer := n + 1 } : State).putSvc n (some (accounted granted v).takeHead) := by
  rw [accountSlot_eq granted hv, modSvc_putSvc]

theorem takeCell_of_uncorrectable (hv : s.svc n = some v) :
    takeCell .uncorrectable granted n v s =
      .next ((recordCheck .poolUncorrected (some n) (some v.queue.read)
        (({ s with rrPointer := n + 1 } : State).deliver nullCell.bytes)).putDrained n (accounted granted v).takeHead) := by
  rw [← drainTest_putSvc, takeCell, takeHead_taken granted hv, recordCheck_putSvc, ← recordCheck_deliver]
  rfl

/-- The head cell taken and completed (R79, R93, R125). -/
theorem takeCell_of_complete {out : OutCell} (hv : s.svc n = some v) (hecc : ecc ≠ .uncorrectable)
    (hout : completeCell n v (Pool.read s.pool v.queue.read) = some out) :
    takeCell ecc granted n v s =
      .next ((if ecc = .corrected then
          recordCheck .poolCorrected (some n) (some v.queue.read) (({ s with rrPointer := n + 1 } : State).deliver out.bytes)
        else ({ s with rrPointer := n + 1 } : State).deliver out.bytes).putDrained n
          ((accounted granted v).takeHead.countScrambled out)) := by
  rw [← drainTest_putSvc]
  unfold takeCell
  rw [takeHead_taken granted hv, hout]
  cases ecc with
  | uncorrectable => exact absurd rfl hecc
  | clean =>
    dsimp only
    rw [if_neg (by decide), if_neg (by decide), modSvc_putSvc]
    rfl
  | corrected =>
    dsimp only
    rw [if_pos rfl, if_pos rfl, recordCheck_putSvc, modSvc_putSvc, ← recordCheck_deliver]
    rfl

/-- The bytes of a cell that carries the fields given (R112, R190). -/
theorem bytes_of_fields (c : OutCell) {kind second : Nat} (hkind : c.kind.number = kind) (hservice : c.service = n)
    (hsecond : 128 * c.scrambled.toNat + 64 * c.phase.byte.toNat = second) (hvalid : c.validBits < 1024) :
    c.bytes =
      [byteOf (32 * kind + 2 * n.val + c.start.toNat), byteOf (second + 4 * c.continuity.toNat + c.validBits / 256),
        byteOf c.validBits]
      ++ [crc8 [byteOf (32 * kind + 2 * n.val + c.start.toNat),
        byteOf (second + 4 * c.continuity.toNat + c.validBits / 256), byteOf c.validBits]]
      ++ payloadBytes c.payload := by
  rw [OutCell.bytes, header_eq c hvalid, hkind, hservice, hsecond]

/-! ## The service that is chosen -/

theorem serveSlot_of_ring (hv : s.svc n = some v) (hne : v.queue.read ≠ v.queue.write) :
    serveSlot ecc granted n s = takeCell ecc granted n v s := by
  rw [serveSlot, hv]
  exact if_neg fun h => hne ((ringEmpty_iff v).mp h)

theorem serveSlot_of_marker {x : Marker} (hv : s.svc n = some v) (hempty : v.queue.read = v.queue.write)
    (hx : v.queue.marker = some x) : serveSlot ecc granted n s = .next (sendMarker granted n v x s) := by
  rw [serveSlot, hv]
  dsimp only
  rw [if_pos ((ringEmpty_iff v).mpr hempty), hx]

/-- The service at distance `j` from the pointer is served, granted, or from surplus where nothing is granted. -/
theorem fillSlot_chooses {j : Nat} (hj : j < 16) (hn : n = s.rrPointer + Fin.ofNat 16 j) (hv : s.svc n = some v)
    (havail : v.available = true)
    (hgranted : granted = true → 0 < v.alloc.deficit ∧
      ∀ i < j, ∀ u ∈ s.svc (s.rrPointer + Fin.ofNat 16 i), u.alloc.deficit = 0 ∨ u.nothingToSend)
    (hsurplus : granted = false → (∀ m, ∀ u ∈ s.svc m, u.alloc.deficit = 0 ∨ u.nothingToSend) ∧
      ∀ i < j, ∀ u ∈ s.svc (s.rrPointer + Fin.ofNat 16 i), u.nothingToSend) :
    fillSlot ecc s = serveSlot ecc granted n s := by
  subst hn
  cases granted with
  | true =>
    obtain ⟨hdeficit, hbefore⟩ := hgranted rfl
    have hsearch : grantedSearch s = some (s.rrPointer + Fin.ofNat 16 j) :=
      find_searchOrder (test := grantedTest s) hj (by rw [grantedTest, hv]; simp [havail, hdeficit])
        fun i hi => grantedTest_eq_false (hbefore i hi)
    rw [fillSlot, hsearch]
  | false =>
    obtain ⟨hnone, hbefore⟩ := hsurplus rfl
    have hsearch : surplusSearch s = some (s.rrPointer + Fin.ofNat 16 j) :=
      find_searchOrder (test := surplusTest s) hj (by rw [surplusTest, hv]; exact havail)
        fun i hi => surplusTest_eq_false (hbefore i hi)
    rw [fillSlot, grantedSearch_eq_none hnone, hsearch]

theorem pictureOut_clear (c : PoolCell) (h : v.keys.prot = some .clear ∨ v.keys.prot = some .window) :
    pictureOut n v c = some
      { kind := .picture, service := c.service, start := c.start, scrambled := false
        phase := if v.keys.prot = some .window then v.keys.phase else .zero
        continuity := v.contPicture, validBits := c.validBits, payload := c.payload } := by
  rcases h with h | h <;> simp [pictureOut, h]

theorem pictureOut_scrambled (c : PoolCell) {x : KeySlot} (h : Scrambles v) (hx : v.keys.current = some x) :
    pictureOut n v c = some
      { kind := .picture, service := c.service, start := c.start, scrambled := true, phase := v.keys.phase
        continuity := v.contPicture, validBits := c.validBits
        payload := scramblePayload x.key v.cellSeq n c.payload } := by
  rcases h with h | h | h <;> simp [pictureOut, h, hx]

theorem scrambles_of (hnone : v.keys.prot ≠ none) (hblack : v.keys.prot ≠ some .blackout)
    (hclear : v.keys.prot ≠ some .clear) (hwindow : v.keys.prot ≠ some .window) : Scrambles v := by
  unfold Scrambles
  cases hp : v.keys.prot with
  | none => exact absurd hp hnone
  | some st => cases st <;> simp_all

/-- Settles O44: the search from the pointer chooses the service, and its head cell or marker is completed by its kind and
the protection state. -/
theorem grantedServiceSendsItsCell : Obligations.GrantedServiceSendsItsCell := by
  intro s ecc n v j granted left hrest hslot hpayload hleft hv hj hn hgranted hsurplus hact hnone hblack served out w
  have hserve (hcell : v.queue.read ≠ v.queue.write ∨ v.queue.marker ≠ none) :
      exec (.slotPull ecc) s = serveSlot ecc granted n { slotBegun s with dueList := left } := by
    rw [exec_slotPull hrest hslot, pullSlot_of_payload hpayload, payloadSlot_of_dueLeft (s := slotBegun s) hleft]
    exact fillSlot_chooses (s := { slotBegun s with dueList := left }) hj hn hv (available_of hact hnone hblack hcell)
      hgranted hsurplus
  refine ⟨fun hne => ?_, fun m hempty hm => ?_⟩
  · intro cell hservice hvalid sent taken told
    have htaken : (accounted granted v).takeHead = taken := by
      unfold Service.takeHead
      cases hstate : v.ingest.state <;> simp only [accounted, hstate, taken, w] <;> rfl
    have hring : exec (.slotPull ecc) s = takeCell ecc granted n v { slotBegun s with dueList := left } := by
      rw [hserve (.inl hne)]
      exact serveSlot_of_ring (s := { slotBegun s with dueList := left }) hv hne
    have hcomplete {out : OutCell} (hecc : ecc ≠ .uncorrectable) (hout : completeCell n v cell = some out) :
        exec (.slotPull ecc) s =
          .next ((told (served out.bytes)).putDrained n (taken.countScrambled out)) := by
      rw [hring, takeCell_of_complete (s := { slotBegun s with dueList := left }) hv hecc hout, htaken]
      rfl
    refine ⟨fun hecc => ?_, fun hecc hkind => ?_, fun hecc hkind hprot => ?_, fun x hecc hkind hclear hwindow hx => ?_⟩
    · rw [hring, hecc, takeCell_of_uncorrectable (s := { slotBegun s with dueList := left }) hv, htaken, bytes_nullCell]
      rfl
    · rw [hcomplete hecc (out := gapOut v.contPicture cell) (by rw [completeCell, hkind]),
        bytes_of_fields (gapOut v.contPicture cell) (kind := 3) rfl hservice rfl hvalid]
      rfl
    · intro second
      have hsecond : 128 * false.toNat + 64 * (if v.keys.prot = some .window then v.keys.phase else .zero).byte.toNat
          = second := by
        by_cases hwindow : v.keys.prot = some .window <;> simp [second, hwindow, Phase.byte]
      rw [hcomplete hecc (by rw [completeCell, hkind]; exact pictureOut_clear cell hprot),
        bytes_of_fields _ (kind := 2) rfl hservice hsecond hvalid]
      rfl
    · rw [hcomplete hecc (by
          rw [completeCell, hkind]
          exact pictureOut_scrambled cell (scrambles_of hnone hblack hclear hwindow) hx),
        bytes_of_fields _ (kind := 2) rfl hservice rfl hvalid]
      rfl
  · rw [hserve (.inr (by rw [hm]; exact Option.some_ne_none m)),
      serveSlot_of_marker (s := { slotBegun s with dueList := left }) hv hempty hm,
      sendMarker_eq (s := { slotBegun s with dueList := left }) hv,
      bytes_of_fields (gapOut v.contPicture (m.gapCell n)) (n := n) (kind := 3) rfl rfl rfl (show 32 < 1024 by decide)]
    rfl

end Sys2Proof.Proofs
end


section
/-! PROOF. The current key at the take (R161) and the clear window (R159). -/

namespace Sys2Proof.Proofs
open Sys2Proof.Machine

variable {s t u : State} {n m : Svc} {v : Service} {ecc : EccResult} {granted : Bool}

/-- A service with a cell available is in a protection state other than BLACKOUT. -/
theorem prot_of_available (h : v.available = true) :
    v.participant = true ∧ v.keys.prot ≠ none ∧ v.keys.prot ≠ some .blackout := by
  simp only [Service.available, Bool.and_eq_true, bne_iff_ne, Option.isSome_iff_ne_none] at h
  obtain ⟨⟨⟨hpart, hnone⟩, hblack⟩, -⟩ := h
  exact ⟨hpart, hnone, hblack⟩

/-- A cell that is scrambled finds the current key (R161). -/
theorem completeCell_isSome (c : PoolCell) (havail : v.available = true) (hlaw : v.protectionLaw) :
    ∃ out, completeCell n v c = some out := by
  obtain ⟨-, hnone, hblack⟩ := prot_of_available havail
  unfold completeCell
  split
  · exact ⟨_, rfl⟩
  · by_cases hclear : v.keys.prot = some .clear ∨ v.keys.prot = some .window
    · exact ⟨_, pictureOut_clear c hclear⟩
    · have hscr := scrambles_of hnone hblack (fun h => hclear (.inl h)) fun h => hclear (.inr h)
      obtain ⟨x, hx⟩ := Option.isSome_iff_exists.mp (hlaw.2.2 hscr)
      exact ⟨_, pictureOut_scrambled c hscr hx⟩

/-- What a slot carries and leaves, whatever it is served from. -/
theorem serveSlot_cases (granted : Bool) (hv : s.svc n = some v) (havail : v.available = true) (hlaw : v.protectionLaw) :
    ∃ t, serveSlot ecc granted n s = .next t ∧ ∃ c : OutCell, t.outCell = c.bytes ∧
      (c.kind ≠ .picture ∨
        v.queue.read ≠ v.queue.write ∧ pictureOut n v (Pool.read s.pool v.queue.read) = some c) := by
  have hdrained (t : State) (w : Service) : (t.putDrained n w).outCell = t.outCell := by
    unfold State.putDrained
    split <;> rfl
  have hcheck (c : CheckClass) (a : Option Svc) (b : Option Nat) (t : State) : (recordCheck c a b t).outCell = t.outCell := by
    rw [recordCheck_eq]
  by_cases hempty : v.queue.read = v.queue.write
  · cases hm : v.queue.marker with
    | some x =>
      refine ⟨_, serveSlot_of_marker hv hempty hm, gapOut v.contPicture (x.gapCell n), ?_, .inl (by simp [gapOut])⟩
      rw [sendMarker_eq hv, hdrained]
      rfl
    | none =>
      refine ⟨s.deliver nullCell.bytes, ?_, nullCell, rfl, .inl (by simp [nullCell])⟩
      rw [serveSlot, hv]
      dsimp only
      rw [if_pos ((ringEmpty_iff v).mpr hempty), hm]
  · rw [serveSlot_of_ring hv hempty]
    by_cases hecc : ecc = .uncorrectable
    · refine ⟨_, hecc ▸ takeCell_of_uncorrectable hv, nullCell, ?_, .inl (by simp [nullCell])⟩
      rw [hdrained, hcheck]
      rfl
    · obtain ⟨out, hout⟩ := completeCell_isSome (n := n) (Pool.read s.pool v.queue.read) havail hlaw
      refine ⟨_, takeCell_of_complete hv hecc hout, out, ?_, ?_⟩
      · rw [hdrained]
        split
        · rw [hcheck]
          rfl
        · rfl
      · unfold completeCell at hout
        split at hout
        · obtain rfl := Option.some.inj hout
          exact .inl (by simp [gapOut])
        · exact .inr ⟨hempty, hout⟩

/-- Every pull has a cell, and a picture cell is that of the ring it was taken from. -/
theorem pullSlot_cases (hlaws : protectionLaws s) :
    ∃ t, pullSlot ecc s = .next t ∧ ∃ c : OutCell, t.outCell = c.bytes ∧
      (c.kind ≠ .picture ∨ ∃ n v, s.svc n = some v ∧ v.available = true ∧ v.queue.read ≠ v.queue.write ∧
        pictureOut n v (Pool.read s.pool v.queue.read) = some c) := by
  have hfill (left : List Svc) : ∃ t, fillSlot ecc { slotBegun s with dueList := left } = .next t ∧
      ∃ c : OutCell, t.outCell = c.bytes ∧
        (c.kind ≠ .picture ∨ ∃ n v, s.svc n = some v ∧ v.available = true ∧ v.queue.read ≠ v.queue.write ∧
          pictureOut n v (Pool.read s.pool v.queue.read) = some c) := by
    rcases fillSlot_cases ecc { slotBegun s with dueList := left } with h | ⟨granted, n, v, hv, havail, h⟩
    · exact ⟨_, h, nullCell, rfl, .inl (by simp [nullCell])⟩
    · obtain ⟨t, ht, c, hc, hkind⟩ :=
        serveSlot_cases (ecc := ecc) (s := { slotBegun s with dueList := left }) granted hv havail (hlaws n v hv)
      exact ⟨t, h.trans ht, c, hc, hkind.imp id fun ⟨hne, hout⟩ => ⟨n, v, hv, havail, hne, hout⟩⟩
  by_cases hlead : s.slotIndex < s.frameStruct.l
  · exact ⟨_, pullSlot_of_leadIn hlead, nullCell, rfl, .inl (by simp [nullCell])⟩
  · rw [pullSlot_of_payload (Nat.le_of_not_lt hlead)]
    unfold payloadSlot
    split
    · next n rest hdue =>
      dsimp only
      split
      · next ph x hslot =>
        unfold sendEntitle
        split
        · next v hv =>
          refine ⟨_, rfl, entitleCell n ph v.contEntitle x.payload, ?_, .inl (by simp [entitleCell])⟩
          rw [countSend, State.modKeys, State.modSvc_outCell, State.modSvc_outCell]
          rfl
        · next hnone =>
          rw [State.entitleSlot, hnone] at hslot
          cases hslot
      · exact hfill rest
    · next hdue =>
      have hsame : ({ slotBegun s with dueList := (slotBegun s).dueList } : State) = slotBegun s := rfl
      exact hsame ▸ hfill (slotBegun s).dueList

/-- Settles O58: the one fault of the model stands for a scrambled cell without a current key, which the law of the key
contexts excludes. -/
theorem noStepStops : Obligations.NoStepStops := by
  intro s _ hkeys
  unfold State.runs step
  split
  · exact ⟨s, rfl⟩
  · next c rest _ =>
    have hkeys' : State.keysLaw { s with pending := rest } := hkeys
    generalize ({ s with pending := rest } : State) = u at hkeys'
    cases c with
    | slotPull ecc =>
      show ∃ t, execSlotPull ecc u = .next t
      unfold execSlotPull
      split
      · exact ⟨_, rfl⟩
      · split
        · exact ⟨_, rfl⟩
        · obtain ⟨t, ht, -⟩ := pullSlot_cases (ecc := ecc) (settle_protectionLaws hkeys')
          exact ⟨t, ht⟩
    | _ => exact ⟨_, rfl⟩

theorem ringCell_zero (h : v.pointersLaw) : v.ringCell 0 = v.queue.read := by
  obtain ⟨hlow, hhigh, -, -⟩ := h
  rw [Service.ringCell, Nat.add_zero, Nat.mod_eq_of_lt (by omega)]
  omega

/-- The head cell of a ring was appended for its own service. -/
theorem service_of_head (h : s.ringsLaw) (hv : s.svc n = some v) (hne : v.queue.read ≠ v.queue.write) :
    (Pool.read s.pool v.queue.read).service = n := by
  obtain ⟨-, hpointers, -, hcells⟩ := h
  have hp := hpointers n v hv
  have hlen : 0 < v.ringLength := by
    rw [ringLength_of_pointersLaw hp]
    obtain ⟨hr, hr', hw, hw'⟩ := hp
    split <;> omega
  rw [← ringCell_zero hp]
  exact (hcells n v hv 0 hlen).2

/-- Settles O45: header bytes 0 and 1 name the service and the scrambled mark, and the Scrambler leaves a cell clear under
CLEAR and WINDOW alone. -/
theorem clearPictureCellsOnlyInTheWindow : Obligations.ClearPictureCellsOnlyInTheWindow := by
  intro s t ecc n v h0 h1 rest hrest hrings hkeys hslot hexec hbytes hkind hservice hclear hv hprot
  obtain ⟨t', ht', c, hc, hcell⟩ := pullSlot_cases (ecc := ecc) hkeys.1
  rw [exec_slotPull hrest hslot, ht'] at hexec
  obtain rfl := Host.Outcome.next.inj hexec
  obtain ⟨hk, hs, hm⟩ := header_fields c (hc.symm.trans hbytes)
  rw [hkind] at hk
  rw [hservice] at hs
  have hpicture : c.kind = .picture := by
    cases hkc : c.kind <;> simp [hkc, CellKind.number] at hk ⊢
  obtain ⟨m, w, hw, havail, hne, hout⟩ := hcell.resolve_left (not_not.mpr hpicture)
  have hhead := service_of_head hrings hw hne
  obtain ⟨-, hnone, hblack⟩ := prot_of_available havail
  have hfits : c.service = m ∧ (c.scrambled = false → w.keys.prot = some .clear ∨ w.keys.prot = some .window) := by
    by_cases hcw : w.keys.prot = some .clear ∨ w.keys.prot = some .window
    · rw [pictureOut_clear _ hcw] at hout
      obtain rfl := Option.some.inj hout
      exact ⟨hhead, fun _ => hcw⟩
    · have hscr := scrambles_of hnone hblack (fun h => hcw (.inl h)) fun h => hcw (.inr h)
      obtain ⟨x, hx⟩ := Option.isSome_iff_exists.mp ((hkeys.1 m w hw).2.2 hscr)
      rw [pictureOut_scrambled _ hscr hx] at hout
      obtain rfl := Option.some.inj hout
      exact ⟨hhead, fun h => absurd h (by simp)⟩
  obtain rfl : n = m := (Fin.ext hs).trans hfits.1
  obtain rfl := Option.some.inj (hv.symm.trans hw)
  refine (hfits.2 (hm.mp hclear)).resolve_left fun hc => ?_
  have := ((hkeys.1 n v hv).2.1 hnone).mp hc
  rw [hprot] at this
  cases this

end Sys2Proof.Proofs
end


section
/-! PROOF. A changeover happens only with a ready next slot (R138). -/

namespace Sys2Proof.Proofs
open Sys2Proof.Machine

variable {s t u : State} {n m : Svc} {v w : Service}

/-- A service whose current phase, next slot and configuration stand, and which is still a participant if it was. -/
structure Unturned (v w : Service) : Prop where
  cfg : w.cfg = v.cfg
  active : w.activity = .defined → v.activity = .defined
  phase : w.keys.phase = v.keys.phase
  next : w.keys.next = v.keys.next

theorem Unturned.refl (v : Service) : Unturned v v := ⟨rfl, id, rfl, rfl⟩

theorem Unturned.trans {x : Service} (h : Unturned v w) (k : Unturned w x) : Unturned v x :=
  ⟨k.cfg.trans h.cfg, h.active ∘ k.active, k.phase.trans h.phase, k.next.trans h.next⟩

theorem Unturned.ready_iff (h : Unturned v w) : w.ready = true ↔ v.ready = true := by
  rw [Service.ready, Service.ready, h.cfg, h.next]

/-- An entry whose keys changed in neither slot nor phase. -/
theorem Unturned.of_slots (hcfg : w.cfg = v.cfg) (hact : w.activity = .defined → v.activity = .defined)
    (hphase : w.keys.phase = v.keys.phase) (h0 : w.keys.slot0 = v.keys.slot0) (h1 : w.keys.slot1 = v.keys.slot1) :
    Unturned v w := by
  refine ⟨hcfg, hact, hphase, ?_⟩
  rw [KeyCtx.next, KeyCtx.next, hphase]
  cases v.keys.phase
  · exact h1
  · exact h0

/-- Outstanding work turns the current phase of a ready service alone (R136). -/
def TurnsReady (n : Svc) (s t : State) : Prop :=
  ∀ v, s.svc n = some v → v.ready = true ∨ ∃ w, t.svc n = some w ∧ Unturned v w

theorem TurnsReady.refl (n : Svc) (s : State) : TurnsReady n s s := fun v hv => .inr ⟨v, hv, .refl v⟩

theorem TurnsReady.trans (h : TurnsReady n s t) (k : TurnsReady n t u) : TurnsReady n s u := by
  intro v hv
  rcases h v hv with h | ⟨w, hw, hvw⟩
  · exact .inl h
  · rcases k w hw with k | ⟨x, hx, hwx⟩
    · exact .inl (hvw.ready_iff.mp k)
    · exact .inr ⟨x, hx, hvw.trans hwx⟩

theorem TurnsReady.of_svc (h : t.svc n = s.svc n) : TurnsReady n s t := fun v hv => .inr ⟨v, h.trans hv, .refl v⟩

/-- One entry replaced by one that is unturned. -/
theorem TurnsReady.of_put {x : State} (hv : s.svc n = some v) (hx : t = x.putSvc n (some w)) (h : Unturned v w) :
    TurnsReady n s t := by
  intro v' hv'
  obtain rfl := Option.some.inj (hv.symm.trans hv')
  exact .inr ⟨w, by rw [hx, svc_putSvc_self], h⟩

theorem takeWork_turnsReady (x : FrameWork) (n : Svc) (s : State) : TurnsReady n s (takeWork x s) := by
  intro v hv
  have hother {m : Svc} {t : State} (hwork : s.keyWork m t) (hne : n ≠ m) : TurnsReady n s t := .of_svc (hwork.1 n hne)
  cases x with
  | period m =>
    by_cases hm : n = m
    · subst hm
      by_cases hready : v.ready = true
      · exact .inl hready
      · exact TurnsReady.of_put hv (periodExpiry_of_not_ready hv hready) (.of_slots rfl id rfl rfl rfl) v hv
    · exact hother (periodExpiry_keyWork m s) hm v hv
  | window m =>
    by_cases hm : n = m
    · subst hm
      by_cases hready : slotReady v.cfg.nmin v.keys.current = true
      · exact TurnsReady.of_put hv (windowExpiry_of_ready hv hready) (.of_slots rfl id rfl rfl rfl) v hv
      · exact TurnsReady.of_put hv (windowExpiry_of_not_ready hv hready) (.of_slots rfl id rfl rfl rfl) v hv
    · exact hother (windowExpiry_keyWork m s) hm v hv
  | deferral m =>
    by_cases hm : n = m
    · subst hm
      exact TurnsReady.of_put hv (deferralExpiry_eq hv) (.of_slots rfl id rfl rfl rfl) v hv
    · exact hother (deferralExpiry_keyWork m s) hm v hv
  | countdown m =>
    by_cases hm : n = m
    · subst hm
      exact TurnsReady.of_put hv (countdownExpiry_eq hv) (.of_slots rfl id rfl rfl rfl) v hv
    · refine TurnsReady.of_svc ?_ v hv
      show (countdownExpiry m s).svc n = s.svc n
      rw [countdownExpiry, submitEntitlement]
      have hmod (f : Service → Service) : (s.modSvc m f).svc n = s.svc n := by
        rw [State.svc_modSvc, if_neg hm]
      split
      · exact hmod _
      · exact hmod _
  | silence m =>
    by_cases hm : n = m
    · subst hm
      have hstall (q : QueueDesc) (st : IngestState) : Unturned v (stalled v s.frameNumber q st) := by
        refine .of_slots rfl (fun h => ?_) rfl rfl rfl
        by_cases hrun : v.activity = .running
        · rw [stalled, if_pos hrun] at h
          cases h
        · rwa [stalled, if_neg hrun] at h
      cases hp : v.picture with
      | none => exact TurnsReady.of_put hv (silenceExpiry_of_closed hv hp) (hstall _ _) v hv
      | some p => exact TurnsReady.of_put hv (silenceExpiry_of_open hv (state_of_picture hp)) (hstall _ _) v hv
    · refine TurnsReady.of_svc ?_ v hv
      show (silenceExpiry m s).svc n = s.svc n
      cases hv' : s.svc m with
      | none => rw [silenceExpiry_none hv']
      | some v' =>
        cases hp : v'.picture with
        | none =>
          rw [silenceExpiry_of_closed hv' hp, State.svc_putSvc, if_neg hm]
          rfl
        | some p =>
          rw [silenceExpiry_of_open hv' (state_of_picture hp), State.svc_putSvc, if_neg hm]
          rfl
  | allocate =>
    refine .inr ⟨if v.participant then v.granted (grantOf s.frameStruct s.participants n v) else v, ?_, ?_⟩
    · exact (allocatePeriod_svc s n).trans (by rw [hv]; rfl)
    · split
      · exact .of_slots rfl id rfl rfl rfl
      · exact .refl v

theorem settle_turnsReady (n : Svc) (s : State) : TurnsReady n s (settle s) := by
  have hfold (l : List FrameWork) (t : State) : TurnsReady n t (l.foldl (fun t w => takeWork w t) t) := by
    induction l generalizing t with
    | nil => exact .refl n t
    | cons w l ih => exact (takeWork_turnsReady w n t).trans (ih _)
  exact hfold s.frameDue { s with frameDue := [] }

theorem takeOutstanding_turnsReady (x : FrameWork) (n : Svc) (s : State) : TurnsReady n s (takeOutstanding x s) := by
  unfold takeOutstanding
  split
  · exact takeWork_turnsReady x n { s with frameDue := s.frameDue.erase x }
  · exact .refl n s

/-- A frame start turns the current phase of a ready service alone (R139 to R141). -/
theorem startFrame_turnsReady (early order : List Svc) (n : Svc) (hnil : s.frameDue = []) :
    TurnsReady n s (startFrame early order s) := by
  intro v hv
  have hput {keys : KeyCtx} {seq : Word} {requests : List KeyRequest} {due : List FrameWork}
      (h : Begun n (startFrame early order s) v keys seq requests due) (hphase : keys.phase = v.keys.phase)
      (h0 : keys.slot0 = v.keys.slot0) (h1 : keys.slot1 = v.keys.slot1) :
      ∃ w, (startFrame early order s).svc n = some w ∧ Unturned v w := by
    obtain ⟨a, hentry⟩ := h.entry
    exact ⟨_, hentry, .of_slots rfl id hphase h0 h1⟩
  by_cases hready : v.ready = true
  · exact .inl hready
  · refine .inr ?_
    by_cases hkeyed : keyed v
    · by_cases hsteps : steps v
      · exact hput (begun_of_steps early order hv hnil hkeyed hsteps).1 rfl rfl rfl
      · by_cases hwaits : waits v
        · exact hput (begun_of_not_ready early order hv hnil hkeyed hwaits hready) rfl rfl rfl
        · exact hput (begun_of_idle early order hv hnil hkeyed hsteps hwaits) rfl rfl rfl
    · exact hput (begun_of_not_keyed early order hv hnil hkeyed) rfl rfl rfl

/-! ## Commands -/

/-- Moves that turn no current phase. -/
def turnless : Scope := { strict := False, rekeys := False, loads := True, notes := True }

/-- A participant, if it is still there, stands in the phase it stood in. -/
def KeepsPhase (n : Svc) (s t : State) : Prop :=
  ∀ v w, s.svc n = some v → t.svc n = some w → v.activity ≠ .defined → w.keys.phase = v.keys.phase

theorem Change.keeps_phase {o o' : Option Service} (h : Change turnless o o') {ph : Phase}
    (ho : ∀ v ∈ o, v.keys.phase = ph) : ∀ v ∈ o', v.keys.phase = ph := by
  cases h with
  | same => exact ho
  | edit h =>
    intro w hw
    obtain rfl := Option.some.inj hw
    exact (h.phase.resolve_left id).trans (ho _ rfl)
  | @opened v | @closed v | fault v | appended v | acknowledged v | @ended v =>
    intro w hw
    obtain rfl := Option.some.inj hw
    exact ho v rfl
  | started _ _ hphase =>
    intro w hw
    obtain rfl := Option.some.inj hw
    exact hphase.trans (ho _ rfl)
  | created hrekeys => exact hrekeys.elim
  | modified hrekeys => exact hrekeys.elim
  | emptied => exact fun w hw => nomatch hw

theorem Moves.keepsPhase (h : Moves turnless s t) (n : Svc) : KeepsPhase n s t := by
  intro v w hv hw _
  have hall := h.keeps (P := fun s => ∀ x ∈ s.svc n, x.keys.phase = v.keys.phase)
    (fun _ _ hmove => (hmove.change n).keeps_phase) (fun x hx => by rw [Option.some.inj (hv.symm.trans hx)])
  exact hall w hw

theorem KeepsPhase.of_svc (h : t.svc n = s.svc n) : KeepsPhase n s t := by
  intro v w hv hw _
  rw [Option.some.inj ((h.symm.trans hw).symm.trans hv)]

theorem defineService_keepsPhase (nb : Byte) (b : CfgBlock) (n : Svc) (s : State) :
    KeepsPhase n s (defineService nb b s).1 := by
  intro v w hv
  refine KeepsPhase.of_svc ?_ v w hv
  unfold defineService
  split
  · rfl
  · next m hm =>
    split_ifs with hused
    · rfl
    · rfl
    · rfl
    · have hne : n ≠ m := fun he => hused (by rw [← he, hv]; rfl)
      rw [State.svc_putSvc, if_neg hne]

theorem modifyService_keepsPhase (nb : Byte) (expected : Half) (mask : BitVec 24) (b : CfgBlock) (n : Svc) (s : State) :
    KeepsPhase n s (modifyService nb expected mask b s).1 := by
  unfold modifyService
  split
  · exact .of_svc rfl
  · next m v hv =>
    dsimp only
    split_ifs with hstale hlive
    · exact .of_svc rfl
    · exact .of_svc rfl
    · exact .of_svc rfl
    · exact .of_svc rfl
    · exact .of_svc rfl
    · by_cases hm : n = m
      · subst hm
        intro v' w hv' hw hact
        obtain rfl := Option.some.inj ((named_eq_some hv).symm.trans hv')
        rw [svc_putSvc_self] at hw
        obtain rfl := Option.some.inj hw
        rw [(modified_of_participant b (bne_iff_ne.mpr hact) (Bool.eq_false_iff.mpr hlive)).1]
      · refine .of_svc ?_
        rw [State.svc_putSvc, if_neg hm]

theorem runRequest_keepsPhase (r : Request) (n : Svc) (s : State) : KeepsPhase n s (runRequest r s).1 := by
  by_cases hset : setsPhase r
  · cases r with
    | svcDefine nb b => exact defineService_keepsPhase nb b n s
    | svcModify nb expected mask b => exact modifyService_keepsPhase nb expected mask b n s
    | _ => exact hset.elim
  · exact (runRequest_moves (sc := turnless) r s hset fun _ => trivial).keepsPhase n

theorem takeRequest_keepsPhase (p : PortId) (r : Request) (n : Svc) (s : State) : KeepsPhase n s (takeRequest p r s) := by
  intro v w hv hw
  rw [takeRequest, holdResponse, State.setPort_svc] at hw
  exact runRequest_keepsPhase r n (countTake p s) v w (by rwa [countTake, State.setPort_svc]) hw

theorem endFrame_keepsPhase (p : PortId) (received : List Byte) (n : Svc) (s : State) :
    KeepsPhase n s (endFrame p received s) := by
  have hclose (rx : List Byte) : (closeFrame p rx s).svc n = s.svc n := State.setPort_svc s p _ n
  have hrefuse (code : Byte) (resp : RespCode) (t : State) : (refuseRequest p code resp t).svc n = t.svc n := by
    rw [refuseRequest, holdResponse, State.setPort_svc, countTake, State.setPort_svc]
  have hcheck (c : CheckClass) (t : State) : (recordCheck c none none t).svc n = t.svc n := by
    rw [recordCheck_eq]
    rfl
  unfold endFrame
  dsimp only
  split_ifs
  · exact .of_svc (hclose _)
  · exact .of_svc ((hcheck _ _).trans (hclose _))
  · split
    · exact .of_svc ((hrefuse _ _ _).trans ((hcheck _ _).trans (hclose _)))
    · exact .of_svc ((hrefuse _ _ _).trans (hclose _))
    · intro v w hv hw
      exact takeRequest_keepsPhase p _ n _ v w ((hclose _).trans hv) hw

/-- A command but a frame start, its outstanding work done, turns no participant's current phase. -/
theorem exec_keepsPhase {c : Instr} (hline : isLineCommand c = false) (hexp : expiryOf c = none)
    (hrst : s.rstAsserted = false) (hnote : ¬ mayNote c) (h : exec c s = .next t) (n : Svc) :
    KeepsPhase n (settle s) t := by
  have hmoves (hturn : ¬ mayTurn (settle s) c) : KeepsPhase n (settle s) t :=
    (exec_moves (sc := turnless) c hline hexp hrst hturn (fun _ => trivial) (fun _ => trivial) h).keepsPhase n
  cases c with
  | portFrameEnd p received =>
    rw [operate_next (f := endFrame p received) rfl hrst h]
    exact endFrame_keepsPhase p received n _
  | svcDefine nb b =>
    rw [operate_next (f := takeRequest .control (.svcDefine nb b)) rfl hrst h]
    exact takeRequest_keepsPhase _ _ n _
  | svcModify nb expected mask b =>
    rw [operate_next (f := takeRequest .control (.svcModify nb expected mask b)) rfl hrst h]
    exact takeRequest_keepsPhase _ _ n _
  | frameStart early order => exact absurd trivial hnote
  | _ => exact hmoves id

/-- Settles O59: outstanding work and frame starts leave an unready service unturned, and no other command turns a
participant's phase. -/
theorem changeoverOnlyWhenReady : Obligations.ChangeoverOnlyWhenReady := by
  intro s t c n v w hline hexec hv hw hact hphase
  rw [← ready_iff]
  have hturns (h : TurnsReady n s t) : v.ready = true := by
    refine (h v hv).resolve_right ?_
    rintro ⟨w', hw', hvw⟩
    obtain rfl := Option.some.inj (hw.symm.trans hw')
    exact hphase hvw.phase
  cases hrst : s.rstAsserted with
  | true =>
    rw [exec_of_asserted c hrst hline] at hexec
    obtain rfl := Host.Outcome.next.inj hexec
    exact hturns (.refl n s)
  | false =>
    cases hexp : expiryOf c with
    | some x =>
      have htake (hnext : exec c s = .next (expire x s)) : v.ready = true := by
        rw [hnext, expire, hrst] at hexec
        obtain rfl := Host.Outcome.next.inj hexec
        exact hturns (takeOutstanding_turnsReady x n s)
      cases c <;> cases hexp <;> exact htake rfl
    | none =>
      by_cases hnote : mayNote c
      · cases c with
        | frameStart early order =>
          rw [operate_next (f := fun t => if t.slotIndex = 0 then startFrame early order t else t) rfl hrst hexec] at hturns
          refine hturns ((settle_turnsReady n s).trans ?_)
          split
          · exact startFrame_turnsReady early order n (settle_rest s).1
          · exact .refl n _
        | _ => exact hnote.elim
      · refine (settle_turnsReady n s v hv).resolve_right ?_
        rintro ⟨x, hx, hvx⟩
        have hkeeps := exec_keepsPhase hline hexp hrst hnote hexec n x w hx hw fun h => hact (hvx.active h)
        exact hphase (hkeeps.trans hvx.phase)

end Sys2Proof.Proofs
end


section
/-! PROOF. The message ports (R166 to R171, R193): requests read back from their messages, the end of a frame, refusals. -/

namespace Sys2Proof.Proofs
open Sys2Proof.Machine

variable {s t u : State} {n m : Svc} {v w : Service} {p : PortId} {r : Request}

/-! ## Fields read back (R193) -/

/-- A field split in two parts is the parts one after the other. -/
theorem append_extractLsb' {w : Nat} (x : BitVec w) (start low high : Nat) :
    x.extractLsb' (start + low) high ++ x.extractLsb' start low = x.extractLsb' start (high + low) := by
  apply BitVec.eq_of_getLsbD_eq
  intro i hi
  simp only [BitVec.getLsbD_append, BitVec.getLsbD_extractLsb']
  by_cases h : i < low
  · simp [h, hi]
  · simp only [h, hi, decide_false, decide_true, Bool.false_and, Bool.true_and, if_false]
    rw [show start + low + (i - low) = start + i by omega, decide_eq_true (by omega), Bool.true_and]

theorem half_bytes (x : Half) : x.extractLsb' 8 8 ++ x.extractLsb' 0 8 = x := by
  rw [append_extractLsb' x 0 8 8]
  exact BitVec.extractLsb'_eq_self

theorem mask_bytes (x : BitVec 24) : x.extractLsb' 16 8 ++ x.extractLsb' 8 8 ++ x.extractLsb' 0 8 = x := by
  rw [append_extractLsb' x 8 8 8, append_extractLsb' x 0 8 16]
  exact BitVec.extractLsb'_eq_self

theorem extractLsb'_extractLsb' {w : Nat} (x : BitVec w) (a m b n : Nat) (h : b + n ≤ m) :
    (x.extractLsb' a m).extractLsb' b n = x.extractLsb' (a + b) n := by
  apply BitVec.eq_of_getLsbD_eq
  intro i hi
  simp only [BitVec.getLsbD_extractLsb', hi, decide_true, Bool.true_and]
  rw [decide_eq_true (by omega), Bool.true_and, Nat.add_assoc]

theorem keyBytes_eq (x : BitVec 64) : keyBytes x =
    [x.extractLsb' 56 8, x.extractLsb' 48 8, x.extractLsb' 40 8, x.extractLsb' 32 8, x.extractLsb' 24 8,
      x.extractLsb' 16 8, x.extractLsb' 8 8, x.extractLsb' 0 8] := by
  simp only [keyBytes, be32, be16, List.cons_append, List.nil_append]
  simp [extractLsb'_extractLsb']

theorem key_bytes (x : BitVec 64) :
    x.extractLsb' 56 8 ++ x.extractLsb' 48 8 ++ x.extractLsb' 40 8 ++ x.extractLsb' 32 8 ++ x.extractLsb' 24 8 ++
      x.extractLsb' 16 8 ++ x.extractLsb' 8 8 ++ x.extractLsb' 0 8 = x := by
  rw [append_extractLsb' x 48 8 8, append_extractLsb' x 40 8 16, append_extractLsb' x 32 8 24,
    append_extractLsb' x 24 8 32, append_extractLsb' x 16 8 40, append_extractLsb' x 8 8 48, append_extractLsb' x 0 8 56]
  exact BitVec.extractLsb'_eq_self
theorem readCfgBlock_cfgBytes (b : CfgBlock) : readCfgBlock (cfgBytes b) = some b := by
  simp only [cfgBytes, be16, List.cons_append, List.nil_append, readCfgBlock, half_bytes]

theorem tableOf_toList (t : WeightTable) : tableOf t.toList = some t := by
  rw [tableOf, dif_pos (Vector.length_toList)]
  rfl

theorem readFields_fields (r : Request) : readFields r.code r.fields = some r := by
  cases r with
  | svcDefine n cfg => simp [readFields, Request.code, Request.fields, readCfgBlock_cfgBytes]
  | svcModify n expected mask cfg =>
    simp [readFields, Request.code, Request.fields, be16, maskBytes, readCfgBlock_cfgBytes, half_bytes, mask_bytes]
  | weightsLoad intra predicted =>
    have htake : (intra.toList ++ predicted.toList).take 16 = intra.toList := List.take_left' Vector.length_toList
    have hdrop : (intra.toList ++ predicted.toList).drop 16 = predicted.toList := List.drop_left' Vector.length_toList
    show readFields 0x10 (intra.toList ++ predicted.toList) = _
    unfold readFields
    rw [if_neg (by decide), if_neg (by decide), if_pos rfl, htake, hdrop, tableOf_toList, tableOf_toList]
  | muxSet f l a => simp [readFields, Request.code, Request.fields, be16, half_bytes]
  | keyLoad n phase expected key payload =>
    simp [readFields, Request.code, Request.fields, be16, half_bytes, keyBytes_eq, key_bytes]
  | keyClear n phase expected => simp [readFields, Request.code, Request.fields, be16, half_bytes]
  | _ => rfl

theorem lengthAllowed_fields (r : Request) : lengthAllowed r.code r.fields.length = true := by
  cases r with
  | keyLoad n phase expected key payload =>
    simp [lengthAllowed, Request.code, Request.fields, be16, keyBytes_eq]
  | weightsLoad intra predicted =>
    simp [lengthAllowed, Request.code, Request.fields]
  | _ => rfl

theorem code_mem_portCodes (r : Request) : r.code ∈ portCodes r.port := by
  cases r <;> simp [Request.code, Request.port, portCodes]
/-- The framing tests on a whole message, whatever follows its check byte (R167, R168). -/
theorem frameRequest_message (r : Request) (extra : List Byte) (hlen : r.fields.length ≤ 255) :
    frameRequest r.port (r.message ++ extra) = .request r := by
  have hlenByte : (byteOf r.fields.length).toNat = r.fields.length := by
    rw [byteOf, BitVec.toNat_ofNat, Nat.mod_eq_of_lt (by omega)]
  have hwhole : (r.message ++ extra).take (r.fields.length + 3) = r.message :=
    List.take_left' (length_message r.code r.fields)
  have hshort : ¬ (r.message ++ extra).length < r.fields.length + 3 := by
    rw [List.length_append, Request.message, length_message]
    omega
  have hsum : byteSum r.message = 0 := byteSum_message r.code r.fields
  have hcons : r.message ++ extra = r.code :: byteOf r.fields.length ::
      (r.fields ++ ([0 - byteSum (r.code :: byteOf r.fields.length :: r.fields)] ++ extra)) := by
    simp [Request.message, message]
  generalize hm : r.message ++ extra = received at *
  rw [hcons, frameRequest, ← hcons, hlenByte, if_neg hshort, hwhole, if_neg (not_not.mpr hsum),
    if_neg (not_not.mpr (code_mem_portCodes r)), lengthAllowed_fields, List.take_left' rfl, readFields_fields]
  rfl

/-- Settles O5, field by field of each command. -/
theorem requestReadsBackFromItsMessage : Obligations.RequestReadsBackFromItsMessage :=
  fun r extra hlen => frameRequest_message r extra hlen

/-! ## The end of a frame -/

/-- A port after a frame: a response that was sent in full is released (R166, R170). -/
def portRead (x : Port) (sent : Nat) : Port :=
  { held := heldAfterFrame x.held sent, take := x.take, rx := [], dataOut := shiftedOut x.held sent }

theorem closeFrame_eq (p : PortId) (rx : List Byte) (s : State) :
    closeFrame p rx s = s.setPort p (portRead (s.port p) rx.length) := rfl

theorem heldAfterFrame_of_le {held : Option (List Byte)} {sent : Nat} (h : ∀ m ∈ held, m.length ≤ sent) :
    heldAfterFrame held sent = none := by
  unfold heldAfterFrame
  split
  · next m => exact if_pos (h m rfl)
  · rfl

theorem heldAfterFrame_of_lt {m : List Byte} {sent : Nat} (h : sent < m.length) :
    heldAfterFrame (some m) sent = some m := if_neg (Nat.not_le.mpr h)

theorem exec_portFrameEnd (hrest : s.atRest) (received : List Byte) :
    exec (.portFrameEnd p received) s = .next (endFrame p received s) := by
  have h : exec (.portFrameEnd p received) s = .next (operate (endFrame p received) s) := rfl
  rw [h, operate_of_rest _ _ hrest.1 hrest.2]

/-- A frame without a request (R166). -/
theorem endFrame_of_no_request {received : List Byte} (hrx : (s.port p).rx = [])
    (h : received.head? = none ∨ received.head? = some 0xFF#8) :
    endFrame p received s = s.setPort p (portRead (s.port p) received.length) := by
  rw [endFrame, hrx, List.nil_append]
  exact if_pos h

/-- A frame with a request that ends before the held response is out (R169, R170). -/
theorem endFrame_of_held {received m : List Byte} (hrx : (s.port p).rx = []) (hne : received.head? ≠ none)
    (hff : received.head? ≠ some 0xFF#8) (hheld : (s.port p).held = some m) (hlen : received.length < m.length) :
    endFrame p received s = recordCheck .portFormat none none (s.setPort p (portRead (s.port p) received.length)) := by
  rw [endFrame, hrx, List.nil_append, if_neg (not_or.mpr ⟨hne, hff⟩), closeFrame_eq]
  refine if_pos ?_
  rw [State.port_setPort, if_pos rfl, portRead, hheld, heldAfterFrame_of_lt hlen]
  rfl

/-- What a port does with the outcome of the framing tests (R168, R169). -/
def takeFraming (p : PortId) (f : Framing) (s : State) : State :=
  match f with
  | .format code => refuseRequest p code .format (recordCheck .portFormat none none s)
  | .unknown code => refuseRequest p code .unknown s
  | .request r => takeRequest p r s

/-- A frame with a request, the held response read in full (R168, R169). -/
theorem endFrame_of_free {received : List Byte} (hrx : (s.port p).rx = []) (hne : received.head? ≠ none)
    (hff : received.head? ≠ some 0xFF#8) (hheld : ∀ m ∈ (s.port p).held, m.length ≤ received.length) :
    endFrame p received s =
      takeFraming p (frameRequest p received) (s.setPort p (portRead (s.port p) received.length)) := by
  have hfree : ((s.setPort p (portRead (s.port p) received.length)).port p).held.isSome = false := by
    rw [State.port_setPort, if_pos rfl, portRead, heldAfterFrame_of_le hheld]
    rfl
  rw [endFrame, hrx, List.nil_append, if_neg (not_or.mpr ⟨hne, hff⟩), closeFrame_eq, hfree, if_neg Bool.false_ne_true]
  rfl

/-- A port-command row is its port's take of its request. -/
theorem exec_of_requestOf {i : Instr} (h : requestOf i = some r) :
    exec i s = .next (operate (takeRequest r.port r) s) := by
  cases i <;> cases h <;> rfl

theorem length_fields_le {i : Instr} (h : requestOf i = some r) (hwf : i.wellFormed = true) : r.fields.length ≤ 255 := by
  cases r with
  | keyLoad n phase expected key payload =>
    have hfits : payload.length ≤ 243 := by
      cases i <;> cases h
      simpa [Instr.wellFormed, keyPayloadFits] using hwf
    simp only [Request.fields, be16, keyBytes_eq, List.cons_append, List.nil_append, List.length_cons]
    omega
  | weightsLoad intra predicted => simp [Request.fields]
  | _ => simp [Request.fields, be16, maskBytes, cfgBytes]

theorem code_ne_ff (r : Request) : r.code ≠ 0xFF#8 := by cases r <;> simp [Request.code]

theorem head_message (r : Request) (extra : List Byte) : (r.message ++ extra).head? = some r.code := rfl

/-- Settles O6: the frame is closed, its bytes are the request's message, and the row takes the same request. -/
theorem frameEndTakesTheRequest : Obligations.FrameEndTakesTheRequest := by
  intro i r extra s hreq hwf hrest hrx hheld
  have hne : (r.message ++ extra).head? ≠ none := by
    rw [head_message]
    exact Option.some_ne_none _
  have hff : (r.message ++ extra).head? ≠ some 0xFF#8 := by
    rw [head_message]
    exact fun h => code_ne_ff r (Option.some.inj h)
  have hread : portRead (s.port r.port) (r.message ++ extra).length =
      { held := none, take := (s.port r.port).take, rx := []
        dataOut := (((s.port r.port).held.getD []) ++ List.replicate (r.message ++ extra).length 0xFF#8).take
          (r.message ++ extra).length } := by
    rw [portRead, heldAfterFrame_of_le hheld]
    rfl
  rw [exec_portFrameEnd hrest, endFrame_of_free hrx hne hff hheld, frameRequest_message r extra (length_fields_le hreq hwf),
    takeFraming, hread, exec_of_requestOf hreq, operate_of_rest]
  · simpa using hrest.1
  · simpa using hrest.2

/-- Settles O7, by what the frame carries. -/
theorem framesReadTheHeldResponse : Obligations.FramesReadTheHeldResponse := by
  refine ⟨fun p m received s hrest hrx hheld hlen hne hff => ?_, fun p m received s hrest hrx hheld hff => ?_⟩
  · have hhead : received.head? ≠ none := by simpa using hne
    have hread : portRead (s.port p) received.length =
        { held := some m, take := (s.port p).take, rx := [], dataOut := m.take received.length } := by
      rw [portRead, hheld, heldAfterFrame_of_lt hlen, shiftedOut, Option.getD_some, List.take_append_of_le_length hlen.le]
    refine ⟨_, exec_portFrameEnd hrest received, ?_⟩
    rw [endFrame_of_held hrx hhead hff hheld hlen, hread, recordCheck_eq]
    refine ⟨?_, ?_, fun hdetail => ?_, fun hmode => ?_, ?_, ?_⟩
    · cases p <;> rfl
    · cases p <;> rfl
    · have hsame : (s.setPort p { held := some m, take := (s.port p).take, rx := [], dataOut := m.take received.length }
          ).checks = s.checks := State.setPort_checks ..
      dsimp only
      rw [hsame, hdetail, State.setPort_frameNumber]
      rfl
    · dsimp only
      rw [State.setPort_checks, hmode]
      exact ⟨Bool.or_true _, Bool.or_true _⟩
    · cases p <;> rfl
    · cases p <;> rfl
  · rw [exec_portFrameEnd hrest, endFrame_of_no_request hrx (.inr hff), portRead, hheld]
    rfl

/-! ## Requests refused -/

theorem refuseRequest_eq (p : PortId) (code : Byte) (resp : RespCode) (s : State) :
    refuseRequest p code resp s = s.answered p code resp.byte [] := holdResponse_countTake p code _ s

/-- The framing tests in their order (R168). -/
theorem frameRequest_cons_cons (p : PortId) (code len : Byte) (rest : List Byte) :
    frameRequest p (code :: len :: rest) =
      if (code :: len :: rest).length < len.toNat + 3 then .format code
      else if byteSum ((code :: len :: rest).take (len.toNat + 3)) ≠ 0 then .format code
      else if code ∉ portCodes p then .unknown code
      else if !lengthAllowed code len.toNat then .format code
      else
        match readFields code (rest.take len.toNat) with
        | some r => .request r
        | none => .format code := rfl

theorem recordCheck_setPort (c : CheckClass) (service : Option Svc) (cell : Option Nat) (s : State) (p : PortId) (x : Port) :
    recordCheck c service cell (s.setPort p x) = (recordCheck c service cell s).setPort p x := by
  rw [recordCheck_eq, recordCheck_eq]
  cases p <;> rfl

/-- Settles O8: a framing failure is answered on the port that the read has left. -/
theorem framingFailuresAreAnswered : Obligations.FramingFailuresAreAnswered := by
  intro p code rest s whole hrest hrx hheld hcode len short sumWrong foreign badLength take answered
  have hne : whole.head? ≠ none := Option.some_ne_none code
  have hff : whole.head? ≠ some 0xFF#8 := fun h => hcode (Option.some.inj h)
  have hread : portRead (s.port p) whole.length =
      { held := none, take := (s.port p).take, rx := []
        dataOut := (((s.port p).held.getD []) ++ List.replicate whole.length 0xFF#8).take whole.length } := by
    rw [portRead, heldAfterFrame_of_le hheld]
    rfl
  have hanswer (resp : RespCode) (u : State) :
      (u.setPort p (portRead (s.port p) whole.length)).answered p code resp.byte [] = u.setPort p (answered resp.byte) := by
    rw [hread, State.answered, State.port_setPort, if_pos rfl, State.setPort_setPort]
  have hformat (h : frameRequest p whole = .format code) :
      exec (.portFrameEnd p whole) s = .next ((recordCheck .portFormat none none s).setPort p (answered 9)) := by
    rw [exec_portFrameEnd hrest, endFrame_of_free hrx hne hff hheld, h, takeFraming, refuseRequest_eq, recordCheck_setPort,
      hanswer .format]
    rfl
  have hunknown (h : frameRequest p whole = .unknown code) :
      exec (.portFrameEnd p whole) s = .next (s.setPort p (answered 10)) := by
    rw [exec_portFrameEnd hrest, endFrame_of_free hrx hne hff hheld, h, takeFraming, refuseRequest_eq,
      hanswer .unknown]
    rfl
  refine ⟨fun h => hformat ?_, fun ⟨hshort, hsum, hforeign⟩ => hunknown ?_⟩
  · cases rest with
    | nil => rfl
    | cons b tail =>
      rw [frameRequest_cons_cons]
      by_cases hlong : (code :: b :: tail).length < b.toNat + 3
      · exact if_pos hlong
      by_cases hwrong : byteSum ((code :: b :: tail).take (b.toNat + 3)) ≠ 0
      · rw [if_neg hlong, if_pos hwrong]
      have hbad : ¬ foreign ∧ badLength :=
        h.resolve_left fun h => h.elim (fun h => hlong (h.resolve_left (List.cons_ne_nil _ _))) hwrong
      rw [if_neg hlong, if_neg hwrong, if_neg (by exact hbad.1), show lengthAllowed code b.toNat = false from hbad.2]
      rfl
  · obtain ⟨hcons, hlong⟩ := not_or.mp hshort
    cases rest with
    | nil => exact absurd rfl hcons
    | cons b tail =>
      rw [frameRequest_cons_cons, if_neg (by exact hlong), if_neg (by exact hsum), if_pos (by exact hforeign)]

/-! ## Refusals (R171) -/

/-- A request that is not answered OK leaves the state as it stands. -/
theorem runRequest_unchanged_or_ok (r : Request) (s : State) :
    (runRequest r s).1 = s ∨ (runRequest r s).2.code = .ok := by
  cases r with
  | svcDefine b cfg =>
    dsimp only [runRequest, defineService]
    split
    · exact .inl rfl
    · split_ifs
      · exact .inl rfl
      · exact .inl rfl
      · exact .inl rfl
      · exact .inr rfl
  | svcModify b expected mask cfg =>
    dsimp only [runRequest, modifyService]
    split
    · exact .inl rfl
    · split_ifs
      · exact .inl rfl
      · exact .inl rfl
      · exact .inl rfl
      · exact .inl rfl
      · exact .inl rfl
      · exact .inr rfl
  | svcStart b =>
    dsimp only [runRequest, startService]
    split
    · exact .inl rfl
    · split_ifs
      · exact .inl rfl
      · exact .inl rfl
      · exact .inr rfl
  | svcStop b flush =>
    dsimp only [runRequest, stopService]
    split
    · exact .inl rfl
    · split_ifs
      · exact .inl rfl
      · exact .inr rfl
      · exact .inr rfl
      · exact .inl rfl
  | svcRelease b =>
    dsimp only [runRequest, releaseService]
    split
    · exact .inl rfl
    · split_ifs
      · exact .inl rfl
      · exact .inr rfl
  | svcQuery b =>
    dsimp only [runRequest, queryService]
    split <;> exact .inl rfl
  | weightsLoad intra predicted =>
    dsimp only [runRequest, loadWeights]
    split_ifs
    · exact .inl rfl
    · exact .inl rfl
    · exact .inr rfl
  | muxSet f l a =>
    dsimp only [runRequest, setMux]
    split_ifs
    · exact .inl rfl
    · exact .inl rfl
    · exact .inr rfl
  | faultsRead b =>
    dsimp only [runRequest, readFaults]
    split <;> exact .inl rfl
  | faultsAck b =>
    dsimp only [runRequest, ackFaults]
    split
    · exact .inl rfl
    · exact .inr rfl
  | checkMode mode =>
    dsimp only [runRequest, setCheckMode]
    split
    · exact .inl rfl
    · exact .inr rfl
  | keyLoad b pb expected key payload =>
    dsimp only [runRequest, loadKey]
    split
    · exact .inl rfl
    · split_ifs
      · exact .inl rfl
      · exact .inl rfl
      · exact .inl rfl
      · exact .inl rfl
      · exact .inr rfl
  | keyClear b pb expected =>
    dsimp only [runRequest, clearKey]
    split
    · exact .inl rfl
    · split_ifs
      · exact .inl rfl
      · exact .inl rfl
      · exact .inl rfl
      · exact .inr rfl
  | keyStatus b selector =>
    dsimp only [runRequest, keyStatus]
    split
    · exact .inl rfl
    · split <;> exact .inl rfl
  | weightsQuery | muxQuery | status | checkRead | requestsRead => exact .inl rfl
  | reset | checkClear | keyPurge => exact .inr rfl

/-- Settles O9, command by command. -/
theorem refusalsChangeNothing : Obligations.RefusalsChangeNothing := by
  intro p r s reply hcode
  refine takeRequest_of_unchanged p r s reply (Prod.ext ?_ rfl)
  exact (runRequest_unchanged_or_ok r _).resolve_right hcode

end Sys2Proof.Proofs
end


section
/-! PROOF. Requests taken at rest, and SVC_DEFINE and SVC_MODIFY (R2, R7 to R12). -/

namespace Sys2Proof.Proofs
open Sys2Proof.Machine

variable {s t u : State} {n m : Svc} {v w : Service} {p : PortId} {r : Request} {b : Byte}

/-! ## A request taken at rest -/

/-- A request whose work on the state with its take counted is that on another state, answered (R169). -/
theorem takeRequest_of_effect {reply : Reply} (hrun : runRequest r (countTake p s) = (countTake p t, reply)) :
    takeRequest p r s = t.answered p r.code reply.code.byte reply.fields := by
  rw [takeRequest, hrun, holdResponse_countTake]

/-- A port command's row at rest. -/
theorem exec_request {i : Instr} {reply : Reply} (h : requestOf i = some r) (hrest : s.atRest)
    (hrun : runRequest r (countTake r.port s) = (countTake r.port t, reply)) :
    exec i s = .next (t.answered r.port r.code reply.code.byte reply.fields) := by
  rw [exec_of_requestOf h, operate_of_rest _ _ hrest.1 hrest.2, takeRequest_of_effect hrun]

theorem svcFields_of_some {b : Byte} (h : s.named b = some (n, v)) :
    svcFields b s = b :: v.activity.byte :: be16 v.revision := by
  rw [svcFields, h]

theorem svcFields_of_none {b : Byte} (h : s.named b = none) : svcFields b s = [b, 0, 0, 0] := by
  rw [svcFields, h]

theorem svcReply_of_some (code : RespCode) (h : s.named b = some (n, v)) :
    svcReply code b s = { code := code, fields := b :: v.activity.byte :: be16 v.revision } := by
  rw [svcReply, svcFields_of_some h]

theorem svcReply_of_none (code : RespCode) (h : s.named b = none) :
    svcReply code b s = { code := code, fields := [b, 0, 0, 0] } := by
  rw [svcReply, svcFields_of_none h]

/-- An entry just put is the one its byte names. -/
theorem named_putSvc (hb : b.toNat = n.val) (v : Service) : (s.putSvc n (some v)).named b = some (n, v) :=
  named_of_svc _ b n v hb (svc_putSvc_self s n _)

theorem named_eq_none (hb : b.toNat = n.val) (hv : s.svc n = none) : s.named b = none := by
  rw [State.named, svcIndex_of_toNat b n hb]
  dsimp only
  rw [hv]
  rfl

theorem svcIndex_eq_none (hb : 16 ≤ b.toNat) : svcIndex b = none := dif_neg (Nat.not_lt.mpr hb)

theorem named_eq_none_of_le (hb : 16 ≤ b.toNat) : s.named b = none := by
  rw [State.named, svcIndex_eq_none hb]

/-! ## Ranges and regions -/

theorem regionFits_iff (c : SvcConfig) : c.regionFits = true ↔ c.placed := by
  have hpos : 0 < 2 ^ c.k := Nat.two_pow_pos c.k
  simp only [SvcConfig.regionFits, SvcConfig.placed, Bool.and_eq_true, beq_iff_eq, decide_eq_true_eq]
  rw [regionSize_eq]
  omega

/-- The range tests of SVC_DEFINE (R8). -/
theorem defineInRange_iff (s : State) (cfg : CfgBlock) :
    defineInRange s cfg = true ↔ blockInRange cfg ∧ (SvcConfig.ofBlock cfg).qmin ≤ (SvcConfig.ofBlock cfg).qmax ∧
      (SvcConfig.ofBlock cfg).floor ≤ s.inForce.f - s.inForce.l ∧ (SvcConfig.ofBlock cfg).placed := by
  simp only [defineInRange, Bool.and_eq_true, List.all_eq_true, decide_eq_true_eq, regionFits_iff, blockInRange, and_assoc]
  rfl

theorem movesRegion_iff (mask : BitVec 24) : movesRegion mask = true ↔ selects mask 0 = true ∨ selects mask 1 = true := by
  rw [movesRegion, Bool.or_eq_true]

/-- The range tests of SVC_MODIFY (R10). -/
theorem modifyInRange_iff (s : State) (mask : BitVec 24) (cfg : CfgBlock) (c : SvcConfig) :
    modifyInRange s mask cfg c = true ↔
      (∀ i ∈ cfgFields, selects mask i = true → cfgFieldInRange cfg i = true) ∧ c.qmin ≤ c.qmax ∧
        c.floor ≤ s.inForce.f - s.inForce.l ∧ ((selects mask 0 = true ∨ selects mask 1 = true) → c.placed) := by
  have hfield (i : Nat) : (!selects mask i || cfgFieldInRange cfg i) = true ↔
      (selects mask i = true → cfgFieldInRange cfg i = true) := by
    cases selects mask i <;> simp
  have hmoves : (!movesRegion mask || c.regionFits) = true ↔ ((selects mask 0 = true ∨ selects mask 1 = true) → c.placed) := by
    rw [← movesRegion_iff, ← regionFits_iff]
    cases movesRegion mask <;> simp
  simp only [modifyInRange, Bool.and_eq_true, List.all_eq_true, hfield, hmoves, decide_eq_true_eq, and_assoc]
  rfl

/-- The fields selected are live in the state of the service (R10). -/
theorem live_iff (v : Service) (mask : BitVec 24) :
    (v.participant && nonLiveFields.any (selects mask)) = false ↔
      v.activity = .defined ∨ ∀ i ∈ nonLiveFields, selects mask i = false := by
  rw [Bool.and_eq_false_iff, List.any_eq_false]
  refine or_congr ?_ ?_
  · rw [Service.participant, bne_eq_false_iff_eq]
  · simp

theorem overlapsOther_iff (s : State) (n : Svc) (c : SvcConfig) : overlapsOther s n c = true ↔ ¬ s.regionFree n c := by
  rw [← overlapsOther_eq_false_iff, Bool.not_eq_false]

/-! ## SVC_DEFINE -/

theorem defineService_of_no_service (cfg : CfgBlock) (hb : 16 ≤ b.toNat) :
    defineService b cfg s = (s, { code := .noService, fields := [b, 0, 0, 0] }) := by
  rw [defineService, svcIndex_eq_none hb]
  dsimp only
  rw [svcReply_of_none _ (named_eq_none_of_le hb)]

theorem defineService_of_used (cfg : CfgBlock) (hb : b.toNat = n.val) (hv : s.svc n = some v) :
    defineService b cfg s = (s, { code := .busy, fields := b :: v.activity.byte :: be16 v.revision }) := by
  rw [defineService, svcIndex_of_toNat b n hb]
  dsimp only
  rw [hv, svcReply_of_some _ (named_of_svc s b n v hb hv)]
  rfl

theorem defineService_of_not_range {cfg : CfgBlock} (hb : b.toNat = n.val) (hv : s.svc n = none)
    (h : ¬ defineInRange s cfg = true) : defineService b cfg s = (s, { code := .range, fields := [b, 0, 0, 0] }) := by
  rw [defineService, svcIndex_of_toNat b n hb]
  dsimp only
  rw [hv, Bool.eq_false_iff.mpr h, svcReply_of_none .range (named_eq_none hb hv)]
  rfl

theorem defineService_of_overlap {cfg : CfgBlock} (hb : b.toNat = n.val) (hv : s.svc n = none)
    (h : defineInRange s cfg = true) (hfree : ¬ s.regionFree n (SvcConfig.ofBlock cfg)) :
    defineService b cfg s = (s, { code := .overlap, fields := [b, 0, 0, 0] }) := by
  rw [defineService, svcIndex_of_toNat b n hb]
  dsimp only
  rw [hv, h, (overlapsOther_iff _ _ _).mpr hfree, svcReply_of_none .overlap (named_eq_none hb hv)]
  rfl

theorem created_answer (c : SvcConfig) :
    b :: (Service.created c).activity.byte :: be16 (Service.created c).revision = [b, 1, 0, 0] := by
  have hrevision : be16 (Service.created c).revision = [0, 0] := by
    rw [show (Service.created c).revision = 0 from rfl]
    decide
  rw [hrevision]
  rfl

theorem defineService_of_free {cfg : CfgBlock} (hb : b.toNat = n.val) (hv : s.svc n = none)
    (h : defineInRange s cfg = true) (hfree : s.regionFree n (SvcConfig.ofBlock cfg)) :
    defineService b cfg s =
      (s.putSvc n (some (Service.created (SvcConfig.ofBlock cfg))), { code := .ok, fields := [b, 1, 0, 0] }) := by
  rw [defineService, svcIndex_of_toNat b n hb]
  dsimp only
  rw [hv, h, (overlapsOther_eq_false_iff _ _ _).mpr hfree, svcReply_of_some .ok (named_putSvc hb _),
    created_answer]
  rfl

/-- Settles O10: the entry is the one `Service.created` makes. -/
theorem svcDefineCreatesTheService : Obligations.SvcDefineCreatesTheService := by
  intro s n b cfg hrest hb hv hblock hbounds hfloor hplaced hfree
  refine ⟨Service.created (SvcConfig.ofBlock cfg), ?_, rfl, rfl, rfl, rfl, rfl, rfl, rfl, rfl, rfl, rfl, rfl, rfl, rfl, rfl,
    rfl, rfl, rfl, rfl, rfl, rfl⟩
  exact exec_request (i := .svcDefine b cfg) (t := s.putSvc n (some (Service.created (SvcConfig.ofBlock cfg)))) rfl hrest
    (defineService_of_free (s := countTake .control s) hb hv
    ((defineInRange_iff _ _).mpr ⟨hblock, hbounds, hfloor, hplaced⟩) hfree)

/-! ## SVC_MODIFY -/

theorem modifyService_of_none {expected : Half} {mask : BitVec 24} {cfg : CfgBlock} (h : s.named b = none) :
    modifyService b expected mask cfg s = (s, { code := .noService, fields := [b, 0, 0, 0] }) := by
  rw [modifyService, h]
  dsimp only
  rw [svcReply_of_none _ h]

section
variable {expected : Half} {mask : BitVec 24} {cfg : CfgBlock} (h : s.named b = some (n, v))
include h

theorem modifyService_of_stale (hstale : expected ≠ v.revision) :
    modifyService b expected mask cfg s = (s, { code := .stale, fields := b :: v.activity.byte :: be16 v.revision }) := by
  rw [modifyService, h]
  dsimp only
  rw [if_pos hstale, svcReply_of_some _ h]

theorem modifyService_of_not_live (hlive : ¬ (v.participant && nonLiveFields.any (selects mask)) = false) :
    modifyService b v.revision mask cfg s =
      (s, { code := .busy, fields := b :: v.activity.byte :: be16 v.revision }) := by
  rw [modifyService, h]
  dsimp only
  rw [if_neg (not_not.mpr rfl), if_pos (Bool.not_eq_false _ ▸ hlive), svcReply_of_some _ h]

theorem modifyService_of_not_range (hlive : (v.participant && nonLiveFields.any (selects mask)) = false)
    (hrange : ¬ modifyInRange s mask cfg (v.cfg.overlay mask cfg) = true) :
    modifyService b v.revision mask cfg s =
      (s, { code := .range, fields := b :: v.activity.byte :: be16 v.revision }) := by
  rw [modifyService, h]
  dsimp only
  rw [if_neg (not_not.mpr rfl), hlive, Bool.eq_false_iff.mpr hrange, svcReply_of_some .range h]
  rfl

theorem modifyService_of_overlap (hlive : (v.participant && nonLiveFields.any (selects mask)) = false)
    (hrange : modifyInRange s mask cfg (v.cfg.overlay mask cfg) = true) (hmoves : movesRegion mask = true)
    (hfree : ¬ s.regionFree n (v.cfg.overlay mask cfg)) :
    modifyService b v.revision mask cfg s =
      (s, { code := .overlap, fields := b :: v.activity.byte :: be16 v.revision }) := by
  rw [modifyService, h]
  dsimp only
  rw [if_neg (not_not.mpr rfl), hlive, hrange, hmoves, (overlapsOther_iff _ _ _).mpr hfree, svcReply_of_some .overlap h]
  rfl

theorem modifyService_of_capacity (hlive : (v.participant && nonLiveFields.any (selects mask)) = false)
    (hrange : modifyInRange s mask cfg (v.cfg.overlay mask cfg) = true)
    (hfree : (movesRegion mask && overlapsOther s n (v.cfg.overlay mask cfg)) = false) (hpart : v.participant = true)
    (hsel : (selects mask 3 || selects mask 14) = true) (hfits : ¬ s.fits n (v.cfg.overlay mask cfg)) :
    modifyService b v.revision mask cfg s =
      (s, { code := .capacity, fields := b :: v.activity.byte :: be16 v.revision }) := by
  have hcap : capacityOk s n (v.cfg.overlay mask cfg) = false :=
    Bool.eq_false_iff.mpr fun hc => hfits ((capacityOk_iff_fits _ _ _).mp hc)
  rw [modifyService, h]
  dsimp only
  rw [if_neg (not_not.mpr rfl), hlive, hrange, hfree, hpart, hsel, hcap, svcReply_of_some .capacity h]
  rfl

theorem modifyService_of_ok (hb : b.toNat = n.val) (hlive : (v.participant && nonLiveFields.any (selects mask)) = false)
    (hrange : modifyInRange s mask cfg (v.cfg.overlay mask cfg) = true)
    (hfree : (movesRegion mask && overlapsOther s n (v.cfg.overlay mask cfg)) = false)
    (hfits : (v.participant && (selects mask 3 || selects mask 14) && !capacityOk s n (v.cfg.overlay mask cfg)) = false) :
    modifyService b v.revision mask cfg s =
      (s.putSvc n (some (v.modified mask cfg)),
        { code := .ok, fields := b :: v.activity.byte :: be16 (v.revision + 1) }) := by
  rw [modifyService, h]
  dsimp only
  rw [if_neg (not_not.mpr rfl), hlive, hrange, hfree, hfits, svcReply_of_some .ok (named_putSvc hb _)]
  rfl

end

theorem participant_iff (v : Service) : v.participant = true ↔ v.activity ≠ .defined := by
  rw [Service.participant, bne_iff_ne]

/-- Settles O11, by the tests in their order. -/
theorem defineAndModifyRefusals : Obligations.DefineAndModifyRefusals := by
  refine ⟨fun s b cfg hrest => ?define, fun s b expected mask cfg hrest => ?modify⟩
  case define =>
    have hexec {t : State} {reply : Reply} (h : defineService b cfg (countTake .control s) = (countTake .control t, reply)) :
        exec (.svcDefine b cfg) s = .next (t.answered .control 0x01 reply.code.byte reply.fields) :=
      exec_request (i := .svcDefine b cfg) rfl hrest h
    refine ⟨fun hb => hexec (defineService_of_no_service cfg hb), fun n hb => ⟨fun v hv => ?_, fun hv => ?_⟩⟩
    · exact hexec (defineService_of_used (s := countTake .control s) cfg hb hv)
    · intro c ranged
      have hrange : defineInRange (countTake .control s) cfg = true ↔ ranged := defineInRange_iff _ _
      refine ⟨fun h => ?_, fun h hfree => ?_⟩
      · exact hexec (defineService_of_not_range (s := countTake .control s) hb hv fun h' => h (hrange.mp h'))
      · exact hexec (defineService_of_overlap (s := countTake .control s) hb hv (hrange.mpr h) hfree)
  case modify =>
    have hexec {t : State} {reply : Reply}
        (h : modifyService b expected mask cfg (countTake .control s) = (countTake .control t, reply)) :
        exec (.svcModify b expected mask cfg) s = .next (t.answered .control 0x02 reply.code.byte reply.fields) :=
      exec_request (i := .svcModify b expected mask cfg) rfl hrest h
    refine ⟨fun hnone => hexec (modifyService_of_none (by rwa [countTake_named])), fun n v hb hv => ?_⟩
    intro answer c live ranged
    have hnamed : (countTake .control s).named b = some (n, v) := by
      rw [countTake_named]
      exact named_of_svc s b n v hb hv
    have hlive : (v.participant && nonLiveFields.any (selects mask)) = false ↔ live := live_iff v mask
    have hrange : modifyInRange (countTake .control s) mask cfg c = true ↔ ranged := modifyInRange_iff _ _ _ _
    refine ⟨fun h => hexec (modifyService_of_stale hnamed h), ?_, ?_, ?_, ?_⟩
    · rintro rfl h
      exact hexec (modifyService_of_not_live hnamed fun h' => h (hlive.mp h'))
    · rintro rfl h h'
      exact hexec (modifyService_of_not_range hnamed (hlive.mpr h) fun hr => h' (hrange.mp hr))
    · rintro rfl h h' hmoves hfree
      exact hexec (modifyService_of_overlap hnamed (hlive.mpr h) (hrange.mpr h') ((movesRegion_iff mask).mpr hmoves) hfree)
    · rintro rfl h h' hact hsel hfits
      refine hexec (modifyService_of_capacity hnamed (hlive.mpr h) (hrange.mpr h') ?_ ((participant_iff v).mpr hact)
        (Bool.or_eq_true _ _ ▸ hsel) hfits)
      have hstays : movesRegion mask = false := by
        have hfields : ∀ i ∈ [0, 1, 2, 10, 11, 12, 18], selects mask i = false := h.resolve_left hact
        rw [movesRegion, hfields 0 (by decide), hfields 1 (by decide)]
        rfl
      rw [hstays, Bool.false_and]

/-- Settles O12: the stored fields are those of `Service.modified`. -/
theorem svcModifyStoresTheFields : Obligations.SvcModifyStoresTheFields := by
  intro s n b v mask cfg c moves hrest hb hv hlive hfields hbounds hfloor hplaced hfits
  have hnamed : (countTake .control s).named b = some (n, v) := by
    rw [countTake_named]
    exact named_of_svc s b n v hb hv
  have hlive' : (v.participant && nonLiveFields.any (selects mask)) = false :=
    (live_iff v mask).mpr (or_iff_not_imp_left.mpr hlive)
  have hrange : modifyInRange (countTake .control s) mask cfg c = true :=
    (modifyInRange_iff _ _ _ _).mpr ⟨hfields, hbounds, hfloor, fun h => (hplaced h).1⟩
  have hfree : (movesRegion mask && overlapsOther (countTake .control s) n c) = false := by
    cases hmoves : movesRegion mask with
    | false => rfl
    | true => exact (overlapsOther_eq_false_iff _ _ _).mpr (hplaced ((movesRegion_iff mask).mp hmoves)).2
  have hcap : (v.participant && (selects mask 3 || selects mask 14) && !capacityOk (countTake .control s) n c) = false := by
    refine Bool.eq_false_iff.mpr fun h => ?_
    simp only [Bool.and_eq_true, Bool.or_eq_true, Bool.not_eq_true'] at h
    obtain ⟨⟨hpart, hsel⟩, hno⟩ := h
    have hyes : capacityOk (countTake .control s) n c = true :=
      (capacityOk_iff_fits _ _ _).mpr (hfits ((participant_iff v).mp hpart) hsel)
    rw [hyes] at hno
    cases hno
  exact exec_request (i := .svcModify b v.revision mask cfg) (t := s.putSvc n (some (v.modified mask cfg))) rfl hrest
    (modifyService_of_ok hnamed hb hlive' hrange hfree hcap)

end Sys2Proof.Proofs
end


section
/-! PROOF. SVC_START, SVC_STOP and SVC_RELEASE (R6, R13 to R18). -/

namespace Sys2Proof.Proofs
open Sys2Proof.Machine

variable {s t u : State} {n m : Svc} {v w : Service} {b : Byte}

/-! ## SVC_START -/

theorem capacityOk_eq_true (h : s.fits n v.cfg) : capacityOk s n v.cfg = true := (capacityOk_iff_fits _ _ _).mpr h

theorem participant_of_defined (h : v.activity = .defined) : v.participant = false :=
  Bool.eq_false_iff.mpr fun hp => (participant_iff v).mp hp h

/-- The entitlement countdown that a start leaves in an entry (R15). -/
def countdownAtStart (v w : Service) : Service :=
  { w with keys := { w.keys with
    countdown := if v.cfg.protection = .scrambled ∧ v.keys.hasKey = true then 1 else w.keys.countdown } }

theorem startCountdown_putSvc (s : State) (n : Svc) (v w : Service) :
    startCountdown n v (s.putSvc n (some w)) = s.putSvc n (some (countdownAtStart v w)) := by
  unfold startCountdown countdownAtStart
  by_cases h : v.cfg.protection = .scrambled ∧ v.keys.hasKey = true
  · rw [if_pos h, if_pos h, modKeys_putSvc]
  · rw [if_neg h, if_neg h]

/-- An accepted SVC_START, from what it makes of the protection state. -/
theorem startService_of_started (hb : b.toNat = n.val) (hv : s.svc n = some v) (hact : v.activity = .defined)
    (hfits : s.fits n v.cfg) (hrun : w.activity = .running) (hrev : w.revision = v.revision)
    (hprot : startProtection n v (s.putSvc n (some v.started)) = u.putSvc n (some w)) :
    startService b s =
      (u.putSvc n (some (countdownAtStart v w)), { code := .ok, fields := b :: 2 :: be16 v.revision }) := by
  have hactivity : (countdownAtStart v w).activity = .running := hrun
  have hrevision : (countdownAtStart v w).revision = v.revision := hrev
  rw [startService, named_of_svc s b n v hb hv]
  dsimp only
  rw [participant_of_defined hact, capacityOk_eq_true hfits, hprot, startCountdown_putSvc,
    svcReply_of_some .ok (named_putSvc hb _), hactivity, hrevision]
  rfl

theorem startProtection_of_clear (h : v.cfg.protection = .clear) :
    startProtection n v (s.putSvc n (some w)) =
      s.putSvc n (some { w with keys := { w.keys with prot := some .clear } }) := by
  rw [startProtection, h]
  exact modKeys_putSvc ..

theorem startProtection_of_window (h : v.cfg.protection = .scrambled) (hmode : v.cfg.periodMode = .clearWindow) :
    startProtection n v (s.putSvc n (some w)) =
      (s.askedIf (w.cfg.p * w.cfg.c ≤ w.cfg.lead ∧ w.keys.current = none) n w.keys.phase).putSvc n (some
        { w with keys := { w.keys with
          prot := some .window
          timer := { prescale := w.cfg.p, count := w.cfg.c }
          windowSpent := false
          requestMark := decide (w.cfg.p * w.cfg.c ≤ w.cfg.lead ∧ w.keys.current = none) } }) := by
  rw [startProtection, h, hmode]
  dsimp only
  rw [modKeys_putSvc, loadTimer_eq (svc_putSvc_self s n _), askedIf_putSvc, putSvc_putSvc]
  rfl

theorem startProtection_of_repeating (h : v.cfg.protection = .scrambled) (hmode : v.cfg.periodMode = .repeating)
    (hkey : v.keys.current.isSome = true) :
    startProtection n v (s.putSvc n (some w)) =
      (s.askedIf (w.cfg.p * w.cfg.c ≤ w.cfg.lead ∧ w.keys.next = none) n w.keys.phase.other).putSvc n (some
        { w with keys := { w.keys with
          prot := some .scrambled
          timer := { prescale := w.cfg.p, count := w.cfg.c }
          requestMark := decide (w.cfg.p * w.cfg.c ≤ w.cfg.lead ∧ w.keys.next = none) } }) := by
  rw [startProtection, h, hmode]
  dsimp only
  rw [if_pos hkey, modKeys_putSvc, loadTimer_eq (svc_putSvc_self s n _), askedIf_putSvc, putSvc_putSvc]
  rfl

theorem startProtection_of_hold (h : v.cfg.protection = .scrambled) (hmode : v.cfg.periodMode = .hold)
    (hkey : v.keys.current.isSome = true) :
    startProtection n v (s.putSvc n (some w)) =
      s.putSvc n (some { w with keys := { w.keys with prot := some .scrambled } }) := by
  rw [startProtection, h, hmode]
  dsimp only
  rw [if_pos hkey]
  exact modKeys_putSvc ..

theorem startProtection_of_no_key (h : v.cfg.protection = .scrambled) (hmode : v.cfg.periodMode ≠ .clearWindow)
    (hkey : v.keys.current = none) : startProtection n v s = enterBlackout n s := by
  rw [startProtection, h]
  cases hm : v.cfg.periodMode with
  | clearWindow => exact absurd hm hmode
  | repeating | hold =>
    rw [hkey]
    rfl

theorem countTake_askedIf (p : PortId) {due : Prop} [Decidable due] (n : Svc) (ph : Phase) (s : State) :
    (countTake p s).askedIf due n ph = countTake p (s.askedIf due n ph) := by
  unfold State.askedIf
  split
  · cases p <;> rfl
  · rfl

/-- Settles O13, by the protection and the period mode of the service. -/
theorem svcStartSetsTheService : Obligations.SvcStartSetsTheService := by
  intro s n b v hrest hb hv hact hfits full early keys starts
  have hstart {u : State} {w : Service}
      (hprot : startProtection n v ((countTake .control s).putSvc n (some v.started)) =
        (countTake .control u).putSvc n (some w)) (hrun : w.activity = .running) (hrev : w.revision = v.revision) :
      exec (.svcStart b) s = .next ((u.putSvc n (some (countdownAtStart v w))).answered .control 0x03 0
        (b :: 2 :: be16 v.revision)) :=
    exec_request (i := .svcStart b) (t := u.putSvc n (some (countdownAtStart v w))) rfl hrest
      (startService_of_started (s := countTake .control s) (u := countTake .control u) hb hv hact hfits hrun hrev hprot)
  refine ⟨fun hclear => ?clear, fun hscrambled => ⟨fun hmode => ?window, fun hmode hkey => ?repeating,
    fun hmode hkey => ?hold, fun hmode hkey => ?blackout⟩⟩
  case clear =>
    exact hstart (w := { v.started with keys := { v.started.keys with prot := some .clear } })
      (startProtection_of_clear hclear) rfl rfl
  case window =>
    refine hstart (u := s.askedIf (early ∧ v.keys.current = none) n v.keys.phase) (w := { v.started with
      keys := { v.started.keys with
        prot := some .window, timer := full, windowSpent := false
        requestMark := decide (early ∧ v.keys.current = none) } }) ?_ rfl rfl
    rw [startProtection_of_window hscrambled hmode, ← countTake_askedIf]
    rfl
  case repeating =>
    refine hstart (u := s.askedIf (early ∧ v.keys.next = none) n v.keys.phase.other) (w := { v.started with
      keys := { v.started.keys with
        prot := some .scrambled, timer := full, requestMark := decide (early ∧ v.keys.next = none) } }) ?_ rfl rfl
    rw [startProtection_of_repeating hscrambled hmode hkey, ← countTake_askedIf]
    rfl
  case hold =>
    exact hstart (w := { v.started with keys := { v.started.keys with prot := some .scrambled } })
      (startProtection_of_hold hscrambled hmode hkey) rfl rfl
  case blackout =>
    refine hstart (u := ({ s with ctlAttn := s.ctlAttn || v.faults.entries.isEmpty } : State).asked n v.keys.phase true)
      (w := { v.started with
        keys := { v.started.keys with prot := some .blackout }
        faults := v.faults.raise .blackout s.frameNumber }) ?_ rfl rfl
    rw [startProtection_of_no_key hscrambled hmode hkey, enterBlackout_eq (svc_putSvc_self _ n _)]
    exact putSvc_putSvc n _ _ (countTake .control
      (({ s with ctlAttn := s.ctlAttn || v.faults.entries.isEmpty } : State).asked n v.keys.phase true))

/-! ## Refusals of the service commands -/

section
variable {flush : Byte}

theorem startService_of_none (h : s.named b = none) :
    startService b s = (s, { code := .noService, fields := [b, 0, 0, 0] }) := by
  rw [startService, h, ← svcReply_of_none _ h]

theorem stopService_of_none (h : s.named b = none) :
    stopService b flush s = (s, { code := .noService, fields := [b, 0, 0, 0] }) := by
  rw [stopService, h, ← svcReply_of_none _ h]

theorem releaseService_of_none (h : s.named b = none) :
    releaseService b s = (s, { code := .noService, fields := [b, 0, 0, 0] }) := by
  rw [releaseService, h, ← svcReply_of_none _ h]

/-- The answer to SVC_QUERY without a service (R7, R19). -/
theorem queryService_of_none (h : s.named b = none) :
    queryService b s = (s, { code := .noService, fields := [b, 0, 0, 0] }) := by
  rw [queryService, h, ← svcReply_of_none _ h]

variable (h : s.named b = some (n, v))
include h

theorem startService_of_participant (hact : v.activity ≠ .defined) :
    startService b s = (s, { code := .busy, fields := b :: v.activity.byte :: be16 v.revision }) := by
  rw [startService, h]
  dsimp only
  rw [(participant_iff v).mpr hact, svcReply_of_some .busy h]
  rfl

theorem startService_of_no_capacity (hact : v.activity = .defined) (hfits : ¬ s.fits n v.cfg) :
    startService b s = (s, { code := .capacity, fields := b :: v.activity.byte :: be16 v.revision }) := by
  have hcap : capacityOk s n v.cfg = false := Bool.eq_false_iff.mpr fun hc => hfits ((capacityOk_iff_fits _ _ _).mp hc)
  rw [startService, h]
  dsimp only
  rw [participant_of_defined hact, hcap, svcReply_of_some .capacity h]
  rfl

theorem stopService_of_busy (hbusy : v.activity = .defined ∨ (v.activity = .draining ∧ flush = 0)) :
    stopService b flush s = (s, { code := .busy, fields := b :: v.activity.byte :: be16 v.revision }) := by
  rw [stopService, h]
  dsimp only
  rw [if_pos hbusy, svcReply_of_some .busy h]

/-- A flush byte above 1 is refused after the test of the state (R193). -/
theorem stopService_of_range (hact : v.activity ≠ .defined) (hflush : 1 < flush.toNat) :
    stopService b flush s = (s, { code := .range, fields := b :: v.activity.byte :: be16 v.revision }) := by
  have hne0 : flush ≠ 0 := by rintro rfl; simp at hflush
  have hne1 : flush ≠ 1 := by rintro rfl; simp at hflush
  rw [stopService, h]
  dsimp only
  rw [if_neg (not_or.mpr ⟨hact, fun hd => hne0 hd.2⟩), if_neg hne0, if_neg hne1, svcReply_of_some .range h]

theorem releaseService_of_participant (hact : v.activity ≠ .defined) :
    releaseService b s = (s, { code := .busy, fields := b :: v.activity.byte :: be16 v.revision }) := by
  rw [releaseService, h]
  dsimp only
  rw [(participant_iff v).mpr hact, svcReply_of_some .busy h]
  rfl

end

/-- Settles O14: the first test that fails answers the row, and the frame that carries a flush byte above 1. -/
theorem serviceCommandRefusals : Obligations.ServiceCommandRefusals := by
  refine ⟨fun s b hrest => ⟨fun hnone => ?none, fun n v hb hv => ?some⟩, ?frame⟩
  case none =>
    have hnone' : (countTake .control s).named b = none := by rwa [countTake_named]
    exact ⟨exec_request (i := .svcStart b) rfl hrest (startService_of_none hnone'),
      exec_request (i := .svcStop b) rfl hrest (stopService_of_none hnone'),
      exec_request (i := .svcStopFlush b) rfl hrest (stopService_of_none hnone'),
      exec_request (i := .svcRelease b) rfl hrest (releaseService_of_none hnone'),
      exec_request (i := .svcQuery b) rfl hrest (queryService_of_none hnone')⟩
  case some =>
    have hnamed : (countTake .control s).named b = some (n, v) := named_of_svc (countTake .control s) b n v hb hv
    refine ⟨fun hact => ⟨?_, ?_⟩, fun hact hfits => ?_, fun hact => ?_, fun hact => ?_⟩
    · exact exec_request (i := .svcStart b) rfl hrest (startService_of_participant hnamed hact)
    · exact exec_request (i := .svcRelease b) rfl hrest (releaseService_of_participant hnamed hact)
    · exact exec_request (i := .svcStart b) rfl hrest (startService_of_no_capacity hnamed hact hfits)
    · exact exec_request (i := .svcStop b) rfl hrest
        (stopService_of_busy hnamed (hact.imp_right fun hdraining => ⟨hdraining, rfl⟩))
    · exact exec_request (i := .svcStopFlush b) rfl hrest (stopService_of_busy hnamed (.inl hact))
  case frame =>
    intro s b flush extra received hrest hflush hrx hheld read
    have hread : portRead s.control received.length = read.control := by
      rw [portRead, heldAfterFrame_of_le hheld]
      rfl
    have hend {reply : Reply} (hrun : stopService b flush (countTake .control read) = (countTake .control read, reply)) :
        exec (.portFrameEnd .control received) s = .next (read.answered .control 0x04 reply.code.byte reply.fields) := by
      have hne : received.head? ≠ none := Option.some_ne_none _
      have hff : received.head? ≠ some 0xFF#8 := fun h => code_ne_ff (.svcStop b flush) (Option.some.inj h)
      rw [exec_portFrameEnd hrest, endFrame_of_free (p := .control) hrx hne hff hheld,
        show frameRequest .control received = .request (.svcStop b flush) from
          frameRequest_message (.svcStop b flush) extra (by simp [Request.fields]), takeFraming,
        show s.setPort .control (portRead (s.port .control) received.length) = read from
          congrArg (s.setPort .control) hread]
      exact congrArg Host.Outcome.next (takeRequest_of_effect (r := .svcStop b flush) hrun)
    refine ⟨fun hnone => hend (stopService_of_none (by rwa [countTake_named])), fun n v hb hv => ?_⟩
    have hnamed : (countTake .control read).named b = some (n, v) := named_of_svc (countTake .control read) b n v hb hv
    by_cases hact : v.activity = .defined
    · rw [if_pos hact]
      exact hend (stopService_of_busy hnamed (.inl hact))
    · rw [if_neg hact]
      exact hend (stopService_of_range hnamed hact hflush)

/-! ## SVC_STOP -/

/-- The four conditions of a completed drain (R4). -/
theorem drained_iff (v : Service) :
    v.drained = true ↔
      v.picture = none ∧ v.queue.read = v.queue.write ∧ v.queue.marker = none ∧ v.queue.withdrawal = none := by
  simp only [Service.drained, Bool.and_eq_true, Option.isNone_iff_eq_none, ringEmpty_iff, and_assoc]

/-- A service just defined is the one its byte names. -/
theorem named_withDefined (hb : b.toNat = n.val) (w : Service) : (s.withDefined n w).named b = some (n, w.toDefined) :=
  named_of_svc _ b n w.toDefined hb (svc_putSvc_self s n _)

/-- Settles O15, by whether the service has anything to drain. -/
theorem svcStopDrainsOrEnds : Obligations.SvcStopDrainsOrEnds := by
  intro s n b v hrest hb hv hact drained
  have hnamed : (countTake .control s).named b = some (n, v) := named_of_svc (countTake .control s) b n v hb hv
  have hopen : ¬ (v.activity = .defined ∨ (v.activity = .draining ∧ (0 : Byte) = 0)) := by
    rcases hact with h | h <;> simp [h]
  have hstop {t : State} {a : Byte} (hdrain : stopToDrain n v (countTake .control s) = countTake .control t)
      (hanswer : svcFields b (countTake .control t) = b :: a :: be16 v.revision) :
      exec (.svcStop b) s = .next (t.answered .control 0x04 0 (b :: a :: be16 v.revision)) := by
    refine exec_request (i := .svcStop b) (t := t) (reply := { code := .ok, fields := b :: a :: be16 v.revision }) rfl hrest ?_
    change stopService b 0 (countTake .control s) = (countTake .control t, _)
    rw [stopService, hnamed]
    dsimp only
    rw [if_neg hopen, if_pos rfl, hdrain, svcReply, hanswer]
  refine ⟨fun h => ?ends, fun h => ?drains⟩
  case ends =>
    refine hstop (t := s.withDefined n v) ?_ (svcFields_of_some (n := n) (v := v.toDefined) ?_)
    · rw [stopToDrain, if_pos ((drained_iff v).mpr h)]
      exact enterDefined_eq n (countTake .control s) v hv
    · exact named_withDefined (s := countTake .control s) hb v
  case drains =>
    refine hstop (t := s.putSvc n (some { v with activity := .draining })) ?_
      (svcFields_of_some (n := n) (v := { v with activity := .draining }) ?_)
    · rw [stopToDrain, if_neg fun hd => h ((drained_iff v).mp hd)]
      exact State.modSvc_some (countTake .control s) n _ v hv
    · exact named_putSvc (s := countTake .control s) hb _

/-- A record of the service in the Packer's hands. -/
abbrev holdsRecordOf (n : Svc) (s : State) : Bool := s.packer.any fun w => w.record.service == n

/-- The record of a service in the Packer's hands given up, with its credit (R17). -/
theorem dropRecordOf_of_held (h : holdsRecordOf n s = true) : dropRecordOf n s = s.recordDone := by
  obtain ⟨w, hw, hn⟩ := Option.any_eq_true _ _ |>.mp h
  rw [dropRecordOf, hw]
  exact (if_pos (beq_iff_eq.mp hn)).trans (finishRecord_eq hw)

theorem dropRecordOf_of_free (h : holdsRecordOf n s = false) : dropRecordOf n s = s := by
  rw [dropRecordOf]
  cases hw : s.packer with
  | none => rfl
  | some w =>
    rw [holdsRecordOf, hw] at h
    exact if_neg (beq_eq_false_iff_ne.mp h)

/-- The banks after the open picture of a service is dropped (R43). -/
def quantWithout (v : Service) (q : Quantizer) : Quantizer :=
  match v.picture with
  | some p => q.dropUser p.bank
  | none => q

theorem dropPictureUser_eq (v : Service) (s : State) :
    dropPictureUser v s = { s with quant := quantWithout v s.quant } := by
  unfold dropPictureUser quantWithout
  cases v.picture <;> rfl

/-- A queue descriptor after a flush (R92). -/
def flushedQueue (q : QueueDesc) : QueueDesc := { q with read := q.write, marker := none, withdrawal := none }

/-- The state after the flush of a service (R6, R17). -/
def flushed (n : Svc) (v : Service) (s : State) : State :=
  { s.withDefined n { v with queue := flushedQueue v.queue } with
    quant := quantWithout v s.quant
    packer := if holdsRecordOf n s then none else s.packer
    credits := if holdsRecordOf n s then s.credits + 1 else s.credits
    clCredit := if holdsRecordOf n s then s.clCredit + 1 else s.clCredit }

theorem withDefined_putSvc (s : State) (n : Svc) (o : Option Service) (w : Service) :
    (s.putSvc n o).withDefined n w = s.withDefined n w := by
  unfold State.withDefined
  rw [putSvc_putSvc]
  rfl

/-- SVC_STOP with flush (R6, R17). -/
theorem flushService_eq (hv : s.svc n = some v) : flushService n v s = flushed n v s := by
  set q : State := { s with quant := quantWithout v s.quant } with hq
  set w : Service := { v with queue := flushedQueue v.queue } with hw
  have hqueue : (dropPictureUser v s).modQueue n flushedQueue = q.putSvc n (some w) := by
    rw [dropPictureUser_eq, State.modQueue]
    exact State.modSvc_some q n _ v hv
  have hdone : enterDefined n (dropRecordOf n (q.putSvc n (some w))) = flushed n v s := by
    cases hheld : holdsRecordOf n s with
    | true =>
      rw [dropRecordOf_of_held (show holdsRecordOf n (q.putSvc n (some w)) = true from hheld),
        show (q.putSvc n (some w)).recordDone =
          q.recordDone.putSvc n (some w) from rfl, enterDefined_eq n _ w (svc_putSvc_self _ n _), withDefined_putSvc]
      simp only [flushed, hheld, if_true]
      rfl
    | false =>
      rw [dropRecordOf_of_free (show holdsRecordOf n (q.putSvc n (some w)) = false from hheld),
        enterDefined_eq n _ w (svc_putSvc_self q n _), withDefined_putSvc]
      simp only [flushed, hheld, Bool.false_eq_true, if_false]
      rfl
  exact (congrArg (fun t => enterDefined n (dropRecordOf n t)) hqueue).trans hdone

theorem stopService_of_flush (hb : b.toNat = n.val) (hv : s.svc n = some v) (hact : v.activity ≠ .defined) :
    stopService b 1 s = (flushed n v s, { code := .ok, fields := b :: 1 :: be16 v.revision }) := by
  have hnamed : (flushed n v s).named b = some (n, Service.toDefined { v with queue := flushedQueue v.queue }) :=
    named_of_svc _ b n _ hb (svc_putSvc_self s n _)
  have hopen : ¬ (v.activity = .defined ∨ (v.activity = .draining ∧ (1 : Byte) = 0)) := by simpa using hact
  rw [stopService, named_of_svc s b n v hb hv]
  dsimp only
  rw [if_neg hopen, if_neg (by decide), if_pos rfl, flushService_eq hv, svcReply_of_some .ok hnamed]
  rfl

/-- Settles O16, by what the flush drops. -/
theorem svcStopFlushDropsEverything : Obligations.SvcStopFlushDropsEverything := by
  intro s n b v hrest hb hv hact held
  refine (exec_request (i := .svcStopFlush b) (t := flushed n v s) rfl hrest
    (stopService_of_flush (s := countTake .control s) hb hv hact)).trans ?_
  unfold flushed quantWithout
  cases v.picture <;> rfl

/-! ## SVC_RELEASE -/

theorem releaseService_of_defined (hb : b.toNat = n.val) (hv : s.svc n = some v) (hact : v.activity = .defined) :
    releaseService b s = (releaseEntry n s, { code := .ok, fields := [b, 0, 0, 0] }) := by
  have hgone : (releaseEntry n s).svc n = none := by
    rw [releaseEntry, svc_congr (dropCtlAttn_services _)]
    exact svc_putSvc_self s n none
  rw [releaseService, named_of_svc s b n v hb hv]
  dsimp only
  rw [participant_of_defined hact, svcReply_of_none .ok (named_eq_none hb hgone)]
  rfl

/-- Settles O17: the entry and the request go, and then CTL_ATTN is tested. -/
theorem svcReleaseEmptiesTheEntry : Obligations.SvcReleaseEmptiesTheEntry := by
  intro s n b v hrest hb hv hact
  set left : State := served (s.putSvc n none) n with hleft
  have hrelease : releaseEntry n s = dropCtlAttn left := rfl
  have hservices : (dropCtlAttn left).services = left.services := dropCtlAttn_services left
  have hsvc (m : Svc) : (dropCtlAttn left).svc m = (s.putSvc n none).svc m := svc_congr hservices m
  have hother : dropCtlAttn left = { left with ctlAttn := (dropCtlAttn left).ctlAttn } := by
    unfold dropCtlAttn
    split <;> rfl
  have hflag : left.faulted = [] ↔ ∀ m, ∀ w ∈ (dropCtlAttn left).svc m, w.faults.entries = [] := by
    rw [faulted_eq_nil_iff]
    simp only [hsvc, not_exists, not_and, not_not]
    rfl
  refine ⟨dropCtlAttn left, ?exec, ?gone, fun m hm => ?others, ?requests, ?attn, fun hatt hclear => ?falls,
    fun hheld => ?stays, ?rest⟩
  case exec =>
    refine exec_request (i := .svcRelease b) (t := dropCtlAttn left) (reply := { code := .ok, fields := [b, 0, 0, 0] }) rfl hrest ?_
    exact (releaseService_of_defined (s := countTake .control s) hb hv hact).trans
      (congrArg (·, _) (dropCtlAttn_countTake left))
  case gone => rw [hsvc, svc_putSvc_self]
  case others => rw [hsvc, State.svc_putSvc, if_neg hm]
  case requests => rw [hother]; rfl
  case attn => rw [hother]; rfl
  case falls => rw [dropCtlAttn_of_free (hflag.mpr hclear) (by simpa [hleft, served] using hatt)]
  case stays =>
    rw [dropCtlAttn_of_held]
    · rfl
    · refine hheld.imp_right fun ⟨m, w, hw, hne⟩ hnil => hne (hflag.mp hnil m w hw)
  case rest => rw [hother]; rfl

end Sys2Proof.Proofs
end


section
/-! PROOF. RESET and the queries of both ports (R19, R99, R155, R156, R175, R177), and the refusals of the key commands
(R150). -/

namespace Sys2Proof.Proofs
open Sys2Proof.Machine

variable {s t u : State} {n m : Svc} {v w : Service} {b : Byte}

/-- Settles O20: RESET's answer is taken from the state it leaves. -/
theorem resetEmptiesTheServices : Obligations.ResetEmptiesTheServices := by
  intro s hrest
  refine (exec_request (i := .reset) (t := resetPart s) (reply := (resetCommand (countTake .control s)).2) rfl hrest
    rfl).trans ?_
  have hdue : resetPart s = { resetPart s with frameDue := s.frameDue } := by rw [hrest.2]; rfl
  rw [hdue]
  rfl

/-! ## STATUS and MUX_QUERY -/

theorem participantCount_eq (s : State) :
    s.participantCount = (allServices.filter fun n => (s.svc n).any fun v => v.activity != .defined).length := by
  refine congrArg List.length (List.filter_congr fun n _ => ?_)
  rw [State.isParticipant]
  cases s.svc n <;> rfl

/-- Sixteen numbers in a row, counted modulo 2³², hold a multiple of every A of 1 to 16. -/
theorem exists_multiple (x : Word) {a : Nat} (hpos : 1 ≤ a) (hle : a ≤ 16) :
    ∃ j < 16, (x + BitVec.ofNat 32 j).toNat % a = 0 := by
  have hx := x.isLt
  by_cases hwrap : x.toNat + 15 < 2 ^ 32
  · have hlt : (a - x.toNat % a) % a < a := Nat.mod_lt _ hpos
    refine ⟨(a - x.toNat % a) % a, hlt.trans_le hle, ?_⟩
    have hvalue : (x + BitVec.ofNat 32 ((a - x.toNat % a) % a)).toNat = x.toNat + (a - x.toNat % a) % a := by
      rw [BitVec.toNat_add, BitVec.toNat_ofNat]
      omega
    have hmultiple : x.toNat + (a - x.toNat % a) = a * (x.toNat / a + 1) := by
      have hmod := Nat.mod_lt x.toNat hpos
      have hdiv := Nat.div_add_mod x.toNat a
      rw [Nat.mul_add]
      omega
    rw [hvalue, Nat.add_mod_mod, hmultiple, Nat.mul_mod_right]
  · refine ⟨2 ^ 32 - x.toNat, by omega, ?_⟩
    have hvalue : (x + BitVec.ofNat 32 (2 ^ 32 - x.toNat)).toNat = 0 := by
      rw [BitVec.toNat_add, BitVec.toNat_ofNat]
      omega
    rw [hvalue, Nat.zero_mod]

theorem frameNumberAfter_succ (s : State) (j : Nat) :
    frameNumberAfter s (j + 1) = frameNumberAfter s 1 + BitVec.ofNat 32 j := by
  unfold frameNumberAfter
  split
  · rw [Nat.add_comm, BitVec.ofNat_add, BitVec.add_assoc]
  · simp

/-- The count of frames is the least that leads to a multiple of the next A (R99). -/
theorem framesToPeriodStart_least (hpos : 1 ≤ nextPeriodA s) (hle : nextPeriodA s ≤ 16) :
    1 ≤ framesToPeriodStart s ∧ framesToPeriodStart s ≤ 16 ∧
      (frameNumberAfter s (framesToPeriodStart s)).toNat % nextPeriodA s = 0 ∧
      ∀ j, 1 ≤ j → j < framesToPeriodStart s → (frameNumberAfter s j).toNat % nextPeriodA s ≠ 0 := by
  set test : Nat → Bool := fun k => (frameNumberAfter s k).toNat % nextPeriodA s == 0 with htest
  have hfind : ∃ k, (List.range' 1 16).find? test = some k := by
    obtain ⟨j, hj, hzero⟩ := exists_multiple (frameNumberAfter s 1) hpos hle
    rw [← Option.isSome_iff_exists, List.find?_isSome]
    refine ⟨j + 1, ?_, ?_⟩
    · rw [List.mem_range'_1]
      omega
    · rw [htest, beq_iff_eq, frameNumberAfter_succ]
      exact hzero
  obtain ⟨k, hk⟩ := hfind
  have hcount : framesToPeriodStart s = k := congrArg (fun o => o.getD 16) hk
  obtain ⟨hzero, hmem, hbefore⟩ := List.find?_range'_eq_some.mp hk
  rw [List.mem_range'_1] at hmem
  rw [hcount]
  refine ⟨by omega, by omega, beq_iff_eq.mp hzero, fun j hj hlt => ?_⟩
  simpa [htest] using hbefore j hj hlt

theorem frameNumberAfter_eq (s : State) (k : Nat) :
    frameNumberAfter s k = s.frameNumber + BitVec.ofNat 32 (if s.frameBegun then k else k - 1) := by
  unfold frameNumberAfter
  cases s.frameBegun <;> rfl

/-- The protection state that the queries report (R19, R155). -/
def protReport (v : Service) : Byte :=
  if v.activity = .defined then 0xFF else match v.keys.prot with
    | some p => p.byte
    | none => 0xFF

theorem prot_reported (v : Service) :
    (if v.participant then (v.keys.prot.map ProtState.byte).getD 0xFF else 0xFF) = protReport v := by
  unfold protReport
  by_cases hdef : v.activity = .defined
  · rw [participant_of_defined hdef, if_pos hdef]
    rfl
  · rw [(participant_iff v).mpr hdef, if_neg hdef]
    cases v.keys.prot <;> rfl

theorem flagByte_not_isEmpty {α : Type} [DecidableEq α] (l : List α) :
    flagByte (!l.isEmpty) = if l = [] then 0 else 1 := by
  cases l <;> rfl

/-- The allocation fields of SVC_QUERY, absent in a service that is no participant (R19, R194). -/
theorem alloc_reported (v : Service) :
    (if v.participant then
        be16Of v.alloc.grant ++ be16Of v.alloc.deficit ++ [flagByte v.alloc.fallback] ++ be16Of v.alloc.complexity
      else [0, 0, 0, 0, 0, 0, 0]) =
      if v.activity = .defined then List.replicate 7 0 else
        be16Of v.alloc.grant ++ be16Of v.alloc.deficit ++ [flagByte v.alloc.fallback] ++ be16Of v.alloc.complexity := by
  by_cases hdef : v.activity = .defined
  · rw [participant_of_defined hdef, if_pos hdef]
    rfl
  · rw [(participant_iff v).mpr hdef, if_neg hdef, if_pos rfl]

/-- The marker fields of SVC_QUERY (R194). -/
def markerReport (x : Option Marker) : List Byte :=
  match x with
  | none => [0, 0, 0, 0, 0]
  | some m => 1 :: (be16 m.firstNumber ++ [if m.cut then 1 else 0, byteOf m.count])

theorem marker_reported (x : Option Marker) : markerFields x = markerReport x := by
  cases x <;> rfl

/-- Settles O25, one query at a time. -/
theorem controlQueriesReport : Obligations.ControlQueriesReport := by
  refine ⟨fun s hrest => ⟨?status, ⟨framesToPeriodStart s, ?mux, fun hpos hle => ?least⟩⟩, fun s n b v hrest hb hv => ?query⟩
  case status =>
    refine (exec_request (i := .status) (t := s) (reply := { code := .ok, fields := statusFields s }) rfl hrest rfl).trans ?_
    rw [statusFields, participantCount_eq]
    rfl
  case mux =>
    refine (exec_request (i := .muxQuery) (t := s) (reply := { code := .ok, fields := muxQueryFields s }) rfl hrest
      rfl).trans ?_
    rw [muxQueryFields, participantCount_eq]
    cases s.adoptionPending <;> rfl
  case least =>
    have hleast := framesToPeriodStart_least (s := s) hpos hle
    simp only [frameNumberAfter_eq] at hleast
    exact hleast
  case query =>
    have hreply : queryService b (countTake .control s) =
        (countTake .control s, { code := .ok, fields := queryFields b v }) := by
      rw [queryService, named_of_svc (countTake .control s) b n v hb hv]
    refine (exec_request (i := .svcQuery b) (t := s) rfl hrest hreply).trans ?_
    rw [queryFields, prot_reported, alloc_reported, marker_reported, flagByte_not_isEmpty]
    rfl

/-! ## KEY_STATUS and REQUESTS_READ -/

theorem reportedMode_byte (v : Service) :
    v.reportedMode.byte =
      if v.cfg.periodMode = .clearWindow ∧ v.keys.windowSpent = true then 0 else v.cfg.periodMode.byte :=
  apply_ite PeriodMode.byte _ _ _

theorem deferral_reported (v : Service) :
    (if v.participant then byteOf v.keys.deferral else 0) =
      if v.activity = .defined then 0 else byteOf v.keys.deferral := by
  by_cases hdef : v.activity = .defined
  · rw [participant_of_defined hdef, if_pos hdef]
    rfl
  · rw [(participant_iff v).mpr hdef, if_neg hdef, if_pos rfl]

theorem keyStatus_of_none {sel : Byte} (h : s.named b = none) :
    keyStatus b sel s = (s, { code := .noService, fields := [b] }) := by
  rw [keyStatus, h]

theorem keyStatus_of_format {sel : Byte} (h : s.named b = some (n, v)) (hsel : 1 < sel.toNat) :
    keyStatus b sel s = (s, { code := .format, fields := [b] }) := by
  rw [keyStatus, h]
  exact if_pos hsel

theorem keyStatus_of_some {sel : Byte} (h : s.named b = some (n, v)) (hsel : sel.toNat ≤ 1) :
    keyStatus b sel s = (s, { code := .ok, fields := keyStatusFields b sel v }) := by
  rw [keyStatus, h]
  exact if_neg (Nat.not_lt.mpr hsel)

/-- Settles O26, one query at a time. -/
theorem keyQueriesReport : Obligations.KeyQueriesReport := by
  intro s hrest
  refine ⟨?requests, fun b sel => ⟨fun hnone => ?none, fun n v hb hv => ⟨fun hsel => ?format, fun hsel => ?status⟩⟩⟩
  case requests =>
    exact exec_request (i := .requestsRead) (t := s) (reply := { code := .ok, fields := requestsFields s }) rfl hrest rfl
  case none =>
    exact exec_request (i := .keyStatus b sel) rfl hrest (keyStatus_of_none (s := countTake .key s) (by rwa [countTake_named]))
  case format =>
    exact exec_request (i := .keyStatus b sel) rfl hrest
      (keyStatus_of_format (named_of_svc (countTake .key s) b n v hb hv) hsel)
  case status =>
    refine (exec_request (i := .keyStatus b sel) rfl hrest
      (keyStatus_of_some (named_of_svc (countTake .key s) b n v hb hv) hsel)).trans ?_
    rw [keyStatusFields, prot_reported, reportedMode_byte, deferral_reported]
    rfl

/-! ## Refusals of the key commands -/

section
variable {pb : Byte} {expected : Half} {key : BitVec 64} {payload : List Byte}

theorem keyReply_of_some (code : RespCode) (h : s.named b = some (n, v)) :
    keyReply code b s = { code := code, fields := keyFields b v.keys } := by
  rw [keyReply, h]

theorem keyReply_of_none (code : RespCode) (h : s.named b = none) : keyReply code b s = { code := code, fields := [b] } := by
  rw [keyReply, h]

theorem loadKey_of_none (h : s.named b = none) :
    loadKey b pb expected key payload s = (s, { code := .noService, fields := [b] }) := by
  rw [loadKey, h]
  dsimp only
  rw [keyReply_of_none _ h]

theorem clearKey_of_none (h : s.named b = none) :
    clearKey b pb expected s = (s, { code := .noService, fields := [b] }) := by
  rw [clearKey, h]
  dsimp only
  rw [keyReply_of_none _ h]

/-- A load that reaches the tests of its fields (R150). -/
theorem loadKey_of_current (h : s.named b = some (n, v)) (hprot : v.cfg.protection = .scrambled) :
    loadKey b pb v.keys.generation key payload s =
      if 1 < pb.toNat ∨ payload.length < 1 ∨ 92 < payload.length then (s, { code := .format, fields := keyFields b v.keys })
      else if phaseOf pb = v.keys.phase ∧ v.keys.current.isSome = true then
        (s, { code := .slotInUse, fields := keyFields b v.keys })
      else (storeKey n v (phaseOf pb) key payload s, keyReply .ok b (storeKey n v (phaseOf pb) key payload s)) := by
  rw [loadKey, h]
  dsimp only
  rw [if_neg (by simp [hprot]), if_neg (not_not.mpr rfl), keyReply_of_some _ h, keyReply_of_some _ h]

/-- A clear that reaches the test of its phase (R150). -/
theorem clearKey_of_current (h : s.named b = some (n, v)) (hprot : v.cfg.protection = .scrambled) :
    clearKey b pb v.keys.generation s =
      if 1 < pb.toNat then (s, { code := .format, fields := keyFields b v.keys })
      else (emptyKey n v (phaseOf pb) s, keyReply .ok b (emptyKey n v (phaseOf pb) s)) := by
  rw [clearKey, h]
  dsimp only
  rw [if_neg (by simp [hprot]), if_neg (not_not.mpr rfl), keyReply_of_some _ h]

theorem loadKey_of_clear (h : s.named b = some (n, v)) (hprot : v.cfg.protection = .clear) :
    loadKey b pb expected key payload s = (s, { code := .notScrambled, fields := keyFields b v.keys }) := by
  rw [loadKey, h]
  dsimp only
  rw [if_pos hprot, keyReply_of_some _ h]

theorem clearKey_of_clear (h : s.named b = some (n, v)) (hprot : v.cfg.protection = .clear) :
    clearKey b pb expected s = (s, { code := .notScrambled, fields := keyFields b v.keys }) := by
  rw [clearKey, h]
  dsimp only
  rw [if_pos hprot, keyReply_of_some _ h]

theorem loadKey_of_stale (h : s.named b = some (n, v)) (hprot : v.cfg.protection = .scrambled)
    (hstale : expected ≠ v.keys.generation) :
    loadKey b pb expected key payload s = (s, { code := .stale, fields := keyFields b v.keys }) := by
  rw [loadKey, h]
  dsimp only
  rw [if_neg (by simp [hprot]), if_pos hstale, keyReply_of_some _ h]

theorem clearKey_of_stale (h : s.named b = some (n, v)) (hprot : v.cfg.protection = .scrambled)
    (hstale : expected ≠ v.keys.generation) :
    clearKey b pb expected s = (s, { code := .stale, fields := keyFields b v.keys }) := by
  rw [clearKey, h]
  dsimp only
  rw [if_neg (by simp [hprot]), if_pos hstale, keyReply_of_some _ h]

end

theorem phaseOf_byte (ph : Phase) : phaseOf ph.byte = ph := by cases ph <;> rfl

/-- Settles O28, by the tests in their order. -/
theorem keyCommandRefusals : Obligations.KeyCommandRefusals := by
  intro s b pb expected key payload hrest
  have hload {reply : Reply} (h : loadKey b pb expected key payload (countTake .key s) = (countTake .key s, reply)) :
      exec (.keyLoad b pb expected key payload) s = .next (s.answered .key 0x40 reply.code.byte reply.fields) :=
    exec_request (i := .keyLoad b pb expected key payload) rfl hrest h
  have hclear {reply : Reply} (h : clearKey b pb expected (countTake .key s) = (countTake .key s, reply)) :
      exec (.keyClear b pb expected) s = .next (s.answered .key 0x41 reply.code.byte reply.fields) :=
    exec_request (i := .keyClear b pb expected) rfl hrest h
  refine ⟨fun hnone => ?none, fun n v hb hv => ?some⟩
  case none =>
    have hnone' : (countTake .key s).named b = none := by rwa [countTake_named]
    exact ⟨hload (loadKey_of_none hnone'), hclear (clearKey_of_none hnone')⟩
  case some =>
    have hnamed : (countTake .key s).named b = some (n, v) := named_of_svc (countTake .key s) b n v hb hv
    refine ⟨fun hprot => ⟨hload (loadKey_of_clear hnamed hprot), hclear (clearKey_of_clear hnamed hprot)⟩,
      fun hprot hstale => ⟨hload (loadKey_of_stale hnamed hprot hstale), hclear (clearKey_of_stale hnamed hprot hstale)⟩,
      fun hprot => ?current⟩
    rintro rfl
    refine ⟨fun hformat => hload (reply := { code := .format, fields := keyFields b v.keys }) ?_,
      fun hformat => hclear (reply := { code := .format, fields := keyFields b v.keys }) ?_,
      fun hpb hone hmax hphase hkey => hload (reply := { code := .slotInUse, fields := keyFields b v.keys }) ?_⟩
    · rw [loadKey_of_current hnamed hprot, if_pos (by omega)]
    · rw [clearKey_of_current hnamed hprot, if_pos hformat]
    · rw [loadKey_of_current hnamed hprot, if_neg (by omega), if_pos ⟨hphase ▸ phaseOf_byte _, hkey⟩]

end Sys2Proof.Proofs
end


section
/-! PROOF. KEY_LOAD, KEY_CLEAR and KEY_PURGE (R150 to R154); banks with users and current keys stand (R44, R150). -/

namespace Sys2Proof.Proofs
open Sys2Proof.Machine

variable {s t u : State} {n m : Svc} {v w : Service} {b : Byte} {p : PortId} {key : BitVec 64} {payload : List Byte}

/-! ## Slots -/

theorem setSlot_phase (k : KeyCtx) (ph : Phase) (x : Option KeySlot) : (k.setSlot ph x).phase = k.phase := by
  cases ph <;> rfl

theorem setSlot_slot_of_ne (k : KeyCtx) {ph other : Phase} (h : other ≠ ph) (x : Option KeySlot) :
    (k.setSlot ph x).slot other = k.slot other := by
  cases ph <;> cases other <;> simp_all [KeyCtx.setSlot, KeyCtx.slot]

theorem setSlot_countdown (k : KeyCtx) (ph : Phase) (x : Option KeySlot) : (k.setSlot ph x).countdown = k.countdown := by
  cases ph <;> rfl

theorem setSlot_generation (k : KeyCtx) (ph : Phase) (x : Option KeySlot) : (k.setSlot ph x).generation = k.generation := by
  cases ph <;> rfl

theorem setSlot_prot (k : KeyCtx) (ph : Phase) (x : Option KeySlot) : (k.setSlot ph x).prot = k.prot := by
  cases ph <;> rfl

theorem other_ne (ph : Phase) : ph.other ≠ ph := by cases ph <;> simp [Phase.other]

/-! ## KEY_LOAD -/

/-- The keys of a service after a load (R151). -/
def loadedKeys (v : Service) (ph : Phase) (key : BitVec 64) (payload : List Byte) : KeyCtx :=
  { v.keys.setSlot ph (some { key := key, payload := payload, sent := 0 }) with
    generation := v.keys.generation + 1
    countdown := if v.activity ≠ .defined ∧ ph ≠ v.keys.phase then 1 else v.keys.countdown }

/-- A slot of a service replaced and the generation raised (R151, R153). -/
def slotKeys (v : Service) (ph : Phase) (x : Option KeySlot) : KeyCtx :=
  { v.keys.setSlot ph x with generation := v.keys.generation + 1 }

theorem loadedKeys_of_stands (h : ¬ (v.activity ≠ .defined ∧ ph ≠ v.keys.phase)) :
    loadedKeys v ph key payload = slotKeys v ph (some { key := key, payload := payload, sent := 0 }) := by
  rw [loadedKeys, if_neg h, slotKeys, ← setSlot_countdown v.keys ph (some { key := key, payload := payload, sent := 0 })]

/-- The request of a service for a phase taken out of the set (R149). -/
def servedPhase (s : State) (n : Svc) (ph : Phase) : State :=
  { s with
    requests := s.requests.filter fun r => !(r.service == n && r.phase == ph)
    keyAttn := !(s.requests.filter fun r => !(r.service == n && r.phase == ph)).isEmpty }

theorem storeKey_eq (hv : s.svc n = some v) (ph : Phase) (key : BitVec 64) (payload : List Byte) :
    storeKey n v ph key payload s = loadedEffect n v ph ((servedPhase s n ph).putSvc n (some
      { v with keys := slotKeys v ph (some { key := key, payload := payload, sent := 0 }) })) := by
  rw [storeKey, modKeys_some hv, slotKeys, ← setSlot_generation v.keys ph (some { key := key, payload := payload, sent := 0 })]
  rfl

/-- The load that ends BLACKOUT (R144, R151). -/
abbrev endsBlackout (v : Service) (ph : Phase) : Prop :=
  v.activity ≠ .defined ∧ ph = v.keys.phase ∧ v.keys.prot = some .blackout

theorem storeKey_of_stays (hv : s.svc n = some v) (h : ¬ endsBlackout v ph) :
    storeKey n v ph key payload s =
      (servedPhase s n ph).putSvc n (some { v with keys := loadedKeys v ph key payload }) := by
  rw [storeKey_eq hv, loadedEffect]
  by_cases hact : v.activity = .defined
  · rw [participant_of_defined hact, loadedKeys_of_stands fun h => h.1 hact]
    rfl
  rw [(participant_iff v).mpr hact, if_pos rfl]
  by_cases hph : ph = v.keys.phase
  · rw [if_neg (not_not.mpr hph), if_neg fun hprot => h ⟨hact, hph, hprot⟩, loadedKeys_of_stands fun h => h.2 hph]
  · rw [if_pos hph, modKeys_putSvc, loadedKeys, if_pos ⟨hact, hph⟩]
    rfl

/-- The keys of a service after the load that ends its BLACKOUT (R144). -/
def keysAfterBlackout (v : Service) (keys : KeyCtx) : KeyCtx :=
  if v.cfg.periodMode = .hold then { keys with prot := some .scrambled }
  else
    { keys with
      prot := some .scrambled
      timer := { prescale := v.cfg.p, count := v.cfg.c }
      windowSpent := true
      requestMark := decide (v.cfg.periodMode ≠ .hold ∧ v.cfg.p * v.cfg.c ≤ v.cfg.lead ∧ v.keys.next = none) }

theorem storeKey_of_ends (hv : s.svc n = some v) (h : endsBlackout v ph) :
    storeKey n v ph key payload s =
      ((servedPhase s n ph).askedIf (v.cfg.periodMode ≠ .hold ∧ v.cfg.p * v.cfg.c ≤ v.cfg.lead ∧ v.keys.next = none) n
        v.keys.phase.other).putDrained n
          { v with keys := keysAfterBlackout v (loadedKeys v ph key payload), cellSeq := 0 } := by
  obtain ⟨hact, hph, hprot⟩ := h
  subst hph
  set w : Service := { v with keys := slotKeys v v.keys.phase (some { key := key, payload := payload, sent := 0 }) } with hw
  have hphase : w.keys.phase = v.keys.phase := setSlot_phase ..
  have hnext : w.keys.next = v.keys.next := by
    rw [KeyCtx.next, hphase]
    exact setSlot_slot_of_ne v.keys (other_ne _) _
  rw [storeKey_eq hv, loadedEffect, (participant_iff v).mpr hact, if_pos rfl, if_neg (not_not.mpr rfl), if_pos hprot,
    exitBlackout_eq (svc_putSvc_self _ n (some w)), askedIf_putSvc, putSvc_putSvc, drainTest_putSvc, hphase, hnext,
    loadedKeys_of_stands fun h => h.2 rfl]
  rfl

theorem putDrained_svc_self (s : State) (n : Svc) (w : Service) :
    ∃ x, (s.putDrained n w).svc n = some x ∧ (x = w ∨ x = w.toDefined) := by
  unfold State.putDrained
  split
  · exact ⟨w.toDefined, svc_putSvc_self s n _, .inr rfl⟩
  · exact ⟨w, svc_putSvc_self s n _, .inl rfl⟩

theorem putDrained_svc_of_ne (hm : m ≠ n) (w : Service) : (s.putDrained n w).svc m = s.svc m := by
  unfold State.putDrained
  split
  · exact (s.svc_putSvc ..).trans (if_neg hm)
  · exact (s.svc_putSvc ..).trans (if_neg hm)

theorem countTake_putDrained (p : PortId) (s : State) (n : Svc) (w : Service) :
    (countTake p s).putDrained n w = countTake p (s.putDrained n w) := by
  unfold State.putDrained
  split
  · cases p <;> rfl
  · cases p <;> rfl

theorem loadedKeys_answer (v : Service) (ph : Phase) (key : BitVec 64) (payload : List Byte) :
    keyFields b (loadedKeys v ph key payload) = b :: (be16 (v.keys.generation + 1) ++ [v.keys.phase.byte,
      byteOf ((loadedKeys v ph key payload).slot0.isSome.toNat + 2 * (loadedKeys v ph key payload).slot1.isSome.toNat)]) := by
  rw [keyFields, show (loadedKeys v ph key payload).phase = v.keys.phase from setSlot_phase ..]
  rfl

/-- Settles O27, by whether the load ends BLACKOUT. -/
theorem keyLoadStoresTheKeyAndEndsBlackout : Obligations.KeyLoadStoresTheKeyAndEndsBlackout := by
  intro s n b ph key payload v hrest hb hv hprot hone hmax hempty ends keys left served asks answer
  have hnamed : (countTake .key s).named b = some (n, v) := named_of_svc (countTake .key s) b n v hb hv
  have hload {t : State} (hstore : storeKey n v ph key payload (countTake .key s) = countTake .key t)
      (hreply : keyReply .ok b (countTake .key t) = { code := .ok, fields := keyFields b keys }) :
      exec (.keyLoad b ph.byte v.keys.generation key payload) s = .next (answer t) := by
    refine (exec_request (i := .keyLoad b ph.byte v.keys.generation key payload) (t := t)
      (reply := { code := .ok, fields := keyFields b keys }) rfl hrest ?_).trans ?_
    · change loadKey b ph.byte v.keys.generation key payload (countTake .key s) = _
      rw [loadKey_of_current hnamed hprot, phaseOf_byte, if_neg, if_neg, hstore, hreply]
      · rfl
      · rintro ⟨hph, hkey⟩
        rw [hempty hph] at hkey
        cases hkey
      · have hbyte : ph.byte.toNat ≤ 1 := by cases ph <;> decide
        omega
    · exact congrArg (fun f => Host.Outcome.next (t.answered .key 0x40 0 f)) (loadedKeys_answer v ph key payload)
  by_cases hends : ends
  · rw [if_pos hends]
    set w : Service := { v with keys := keysAfterBlackout v keys, cellSeq := 0 } with hw
    change exec _ s = .next (answer ((served.askedIf asks n v.keys.phase.other).putDrained n w))
    refine hload ?_ ?_
    · rw [← countTake_putDrained, ← countTake_askedIf]
      exact storeKey_of_ends (s := countTake .key s) hv hends
    · have hkeys : keyFields b w.keys = keyFields b keys := by
        rw [hw]
        unfold keysAfterBlackout
        split <;> rfl
      rw [← countTake_putDrained]
      obtain ⟨x, hx, hxw⟩ := putDrained_svc_self (countTake .key (served.askedIf asks n v.keys.phase.other)) n w
      rw [keyReply_of_some .ok (named_of_svc _ b n x hb hx), ← hkeys]
      rcases hxw with rfl | rfl <;> rfl
  · rw [if_neg hends]
    refine hload ?_ ?_
    · exact storeKey_of_stays (s := countTake .key s) hv hends
    · exact keyReply_of_some (s := countTake .key (served.putSvc n (some { v with keys := keys }))) (n := n)
        (v := { v with keys := keys }) .ok (named_putSvc (s := countTake .key served) hb _)

/-! ## KEY_CLEAR -/

/-- A clear that takes the current key from a participant (R153). -/
abbrev losesKey (v : Service) (ph : Phase) : Prop :=
  (v.keys.prot = some .window ∨ v.keys.prot = some .scrambled ∨ v.keys.prot = some .deferred ∨
    v.keys.prot = some .late) ∧ ph = v.keys.phase ∧ v.keys.current.isSome = true

theorem emptyKey_eq (hv : s.svc n = some v) (ph : Phase) :
    emptyKey n v ph s = clearedEffect n v ph (s.putSvc n (some { v with keys := slotKeys v ph none })) := by
  rw [emptyKey, modKeys_some hv, slotKeys, ← setSlot_generation v.keys ph none]

theorem emptyKey_of_lost {ph : Phase} (hv : s.svc n = some v) (h : losesKey v ph) :
    emptyKey n v ph s = (({ s with ctlAttn := s.ctlAttn || v.faults.entries.isEmpty } : State).putSvc n (some
      { v with
        keys := { slotKeys v ph none with prot := some .blackout, deferral := 0 }
        faults := v.faults.raise .blackout s.frameNumber })).asked n v.keys.phase true := by
  obtain ⟨hprot, hcur⟩ := h
  have hphase : (slotKeys v ph none).phase = v.keys.phase := setSlot_phase ..
  have heffect (t : State) : clearedEffect n v ph t = enterBlackout n t := by
    unfold clearedEffect
    rcases hprot with h | h | h | h <;> rw [h] <;> exact if_pos hcur
  rw [emptyKey_eq hv, heffect, enterBlackout_eq (svc_putSvc_self s n _), ← asked_putSvc, hphase]
  exact congrArg (fun t => State.asked t n v.keys.phase true)
    (putSvc_putSvc n _ _ ({ s with ctlAttn := s.ctlAttn || v.faults.entries.isEmpty } : State))

theorem emptyKey_of_blackout {ph : Phase} (hv : s.svc n = some v) (h : v.keys.prot = some .blackout) :
    emptyKey n v ph s =
      (s.putSvc n (some { v with keys := slotKeys v ph none })).asked n v.keys.phase true := by
  have hphase : (slotKeys v ph none).phase = v.keys.phase := setSlot_phase ..
  rw [emptyKey_eq hv, clearedEffect, h]
  dsimp only
  rw [requestCurrent_putSvc, asked_putSvc, hphase]

theorem emptyKey_of_stays {ph : Phase} (hv : s.svc n = some v) (h : ¬ losesKey v ph) (hprot : v.keys.prot ≠ some .blackout) :
    emptyKey n v ph s = s.putSvc n (some { v with keys := slotKeys v ph none }) := by
  rw [emptyKey_eq hv, clearedEffect]
  split
  · next hb => exact absurd hb hprot
  · next hp => exact if_neg fun hcur => h ⟨.inl hp, hcur⟩
  · next hp => exact if_neg fun hcur => h ⟨.inr (.inl hp), hcur⟩
  · next hp => exact if_neg fun hcur => h ⟨.inr (.inr (.inl hp)), hcur⟩
  · next hp => exact if_neg fun hcur => h ⟨.inr (.inr (.inr hp)), hcur⟩
  · rfl
  · rfl

/-- Settles O29, by whether the clear takes the current key of a participant, or finds it in BLACKOUT. -/
theorem keyClearEmptiesTheSlot : Obligations.KeyClearEmptiesTheSlot := by
  intro s n b ph v hrest hb hv hprot lost keys answer cleared
  have hnamed : (countTake .key s).named b = some (n, v) := named_of_svc (countTake .key s) b n v hb hv
  have hphase : keys.phase = v.keys.phase := setSlot_phase ..
  have hclear {t : State} {w : Service} (hempty : emptyKey n v ph (countTake .key s) = countTake .key t)
      (hw : t.svc n = some w) (hfields : keyFields b w.keys = keyFields b keys) :
      exec (.keyClear b ph.byte v.keys.generation) s = .next (answer t) := by
    refine (exec_request (i := .keyClear b ph.byte v.keys.generation) (t := t)
      (reply := { code := .ok, fields := keyFields b keys }) rfl hrest ?_).trans ?_
    · change clearKey b ph.byte v.keys.generation (countTake .key s) = _
      have hbyte : ¬ 1 < ph.byte.toNat := by cases ph <;> decide
      rw [clearKey_of_current hnamed hprot, phaseOf_byte, if_neg hbyte, hempty,
        keyReply_of_some .ok (named_of_svc (countTake .key t) b n w hb hw), hfields]
      rfl
    · rw [keyFields, hphase]
      rfl
  refine ⟨fun h => ?lost, fun h => ?blackout, fun h hnot => ?stays⟩
  case lost =>
    exact hclear (emptyKey_of_lost (s := countTake .key s) hv h) (svc_putSvc_self _ n _) rfl
  case blackout =>
    exact hclear (emptyKey_of_blackout (s := countTake .key s) hv h) (svc_putSvc_self s n _) rfl
  case stays =>
    exact hclear (emptyKey_of_stays (s := countTake .key s) hv h hnot) (svc_putSvc_self s n _) rfl

end Sys2Proof.Proofs
end


section
/-! PROOF. KEY_PURGE (R154); banks with users and current keys stand (R44, R150). -/

namespace Sys2Proof.Proofs
open Sys2Proof.Machine

variable {s t u : State} {n m : Svc} {v w : Service} {b : Byte} {p : PortId}

/-! ## KEY_PURGE -/

/-- The services a purge places or keeps in BLACKOUT (R154). -/
def placedAtPurge (v : Service) : Bool := v.activity != .defined && v.cfg.protection == .scrambled

/-- The services that enter BLACKOUT by a purge (R154). -/
def entersAtPurge (v : Service) : Bool := placedAtPurge v && v.keys.prot != some .blackout

/-- Both slots emptied and the generation raised (R154). -/
def purgedKeys (v : Service) : KeyCtx :=
  { v.keys with slot0 := none, slot1 := none, generation := v.keys.generation + 1 }

/-- A service after a purge (R143, R154). -/
def purged (frame : Word) (v : Service) : Service :=
  if entersAtPurge v then
    { v with
      keys := { purgedKeys v with prot := some .blackout, deferral := 0 }
      faults := v.faults.raise .blackout frame }
  else { v with keys := purgedKeys v }

/-- The requests that a purge of one service adds (R154). -/
def askedAtPurge (o : Option Service) (n : Svc) (s : State) : State :=
  match o with
  | some v => if placedAtPurge v then s.asked n v.keys.phase true else s
  | none => s

/-- Whether a purge raises the first fault of an entry's list (R154, R176). -/
def alarmsAtPurge (o : Option Service) : Bool := o.any fun v => entersAtPurge v && v.faults.entries.isEmpty

theorem placedAtPurge_iff (v : Service) :
    placedAtPurge v = true ↔ v.participant = true ∧ v.cfg.protection = .scrambled := by
  rw [placedAtPurge, Bool.and_eq_true, beq_iff_eq]
  rfl

/-- KEY_PURGE for one entry in use. -/
theorem purgeService_some (hv : s.svc n = some v) :
    purgeService n s =
      ({ askedAtPurge (some v) n s with ctlAttn := s.ctlAttn || alarmsAtPurge (some v) } : State).putSvc n
        (some (purged s.frameNumber v)) := by
  rw [purgeService, hv]
  dsimp only
  rw [modKeys_some hv]
  by_cases hplaced : placedAtPurge v = true
  · rw [if_pos ((placedAtPurge_iff v).mp hplaced)]
    by_cases hprot : v.keys.prot = some .blackout
    · have henters : entersAtPurge v = false := by simp [entersAtPurge, hprot]
      rw [if_pos hprot, requestCurrent_putSvc, purged, askedAtPurge, alarmsAtPurge]
      simp only [hplaced, henters, if_true, Bool.false_eq_true, if_false, Option.any_some, Bool.false_and, Bool.or_false]
      rfl
    · have henters : entersAtPurge v = true := by
        rw [entersAtPurge, hplaced, Bool.true_and, bne_iff_ne]
        exact hprot
      rw [if_neg hprot, enterBlackout_eq (svc_putSvc_self s n _), purged, askedAtPurge, alarmsAtPurge]
      simp only [hplaced, henters, if_true, Option.any_some, Bool.true_and]
      exact putSvc_putSvc n _ _
        (({ s with ctlAttn := s.ctlAttn || v.faults.entries.isEmpty } : State).asked n v.keys.phase true)
  · have henters : entersAtPurge v = false := by rw [entersAtPurge, Bool.eq_false_iff.mpr hplaced, Bool.false_and]
    rw [if_neg fun h => hplaced ((placedAtPurge_iff v).mpr h), purged, askedAtPurge, alarmsAtPurge]
    simp only [hplaced, henters, Bool.false_eq_true, if_false, Option.any_some, Bool.false_and, Bool.or_false]
    rfl

theorem purgeService_none (hv : s.svc n = none) : purgeService n s = s := by rw [purgeService, hv]

theorem purgeService_countTake (p : PortId) (n : Svc) (s : State) :
    purgeService n (countTake p s) = countTake p (purgeService n s) := by
  have hsame : (countTake p s).svc n = s.svc n := State.setPort_svc ..
  cases hv : s.svc n with
  | none => rw [purgeService_none (hsame.trans hv), purgeService_none hv]
  | some v =>
    rw [purgeService_some (hsame.trans hv), purgeService_some hv]
    unfold askedAtPurge
    dsimp only
    split
    · cases p <;> rfl
    · cases p <;> rfl

theorem foldl_purgeService_countTake (p : PortId) (l : List Svc) (s : State) :
    l.foldl (fun t n => purgeService n t) (countTake p s) = countTake p (l.foldl (fun t n => purgeService n t) s) := by
  induction l generalizing s with
  | nil => rfl
  | cons n l ih => rw [List.foldl_cons, purgeService_countTake, ih, List.foldl_cons]

/-- The requests of a purge of several services, as the entries stood before it. -/
def askedAtPurges (s : State) (l : List Svc) : State := l.foldl (fun u n => askedAtPurge (s.svc n) n u) s

/-- What a purge of the services in `l` has made of the state `s` (R154). -/
structure Purged (s : State) (l : List Svc) (t : State) : Prop where
  svc : ∀ m, t.svc m = if m ∈ l then (s.svc m).map (purged s.frameNumber) else s.svc m
  requests : t.requests = (askedAtPurges s l).requests
  keyAttn : t.keyAttn = (askedAtPurges s l).keyAttn
  ctlAttn : t.ctlAttn = (s.ctlAttn || l.any fun n => alarmsAtPurge (s.svc n))
  rest : t = { s with services := t.services, requests := t.requests, keyAttn := t.keyAttn, ctlAttn := t.ctlAttn }

theorem askedAtPurge_requests (o : Option Service) (h : t.requests = u.requests) :
    (askedAtPurge o n t).requests = (askedAtPurge o n u).requests := by
  unfold askedAtPurge
  cases o with
  | none => exact h
  | some v =>
    dsimp only
    split
    · simp only [State.asked, h]
    · exact h

theorem askedAtPurge_keyAttn (o : Option Service) (h : t.keyAttn = u.keyAttn) :
    (askedAtPurge o n t).keyAttn = (askedAtPurge o n u).keyAttn := by
  unfold askedAtPurge
  cases o with
  | none => exact h
  | some v =>
    dsimp only
    split
    · rfl
    · exact h

theorem askedAtPurge_rest (o : Option Service) (n : Svc) (t : State) :
    askedAtPurge o n t =
      { t with requests := (askedAtPurge o n t).requests, keyAttn := (askedAtPurge o n t).keyAttn } := by
  unfold askedAtPurge
  cases o with
  | none => rfl
  | some v =>
    dsimp only
    split <;> rfl

theorem Purged.nil (s : State) : Purged s [] s where
  svc _ := rfl
  requests := rfl
  keyAttn := rfl
  ctlAttn := (Bool.or_false _).symm
  rest := rfl

/-- The purge of one service more. -/
theorem Purged.step {l : List Svc} (h : Purged s l t) (hn : n ∉ l) : Purged s (l ++ [n]) (purgeService n t) := by
  have hsame : t.svc n = s.svc n := (h.svc n).trans (if_neg hn)
  have hasked : askedAtPurges s (l ++ [n]) = askedAtPurge (s.svc n) n (askedAtPurges s l) := by
    rw [askedAtPurges, List.foldl_append]
    rfl
  have hany : (l ++ [n]).any (fun n => alarmsAtPurge (s.svc n)) =
      ((l.any fun n => alarmsAtPurge (s.svc n)) || alarmsAtPurge (s.svc n)) := by
    rw [List.any_append, List.any_cons, List.any_nil, Bool.or_false]
  have hframe : t.frameNumber = s.frameNumber := by rw [h.rest]
  cases hv : s.svc n with
  | none =>
    rw [purgeService_none (hsame.trans hv)]
    refine ⟨fun m => ?_, ?_, ?_, ?_, h.rest⟩
    · rw [h.svc m]
      by_cases hm : m = n
      · subst hm
        rw [if_neg hn, if_pos (by simp), hv]
        rfl
      · simp [hm]
    · rw [hasked, hv, h.requests]
      rfl
    · rw [hasked, hv, h.keyAttn]
      rfl
    · rw [hany, hv, h.ctlAttn]
      simp [alarmsAtPurge]
  | some v =>
    rw [purgeService_some (hsame.trans hv), hframe]
    refine ⟨fun m => ?_, ?_, ?_, ?_, ?_⟩
    · rw [State.svc_putSvc]
      by_cases hm : m = n
      · subst hm
        rw [if_pos rfl, if_pos (by simp), hv]
        rfl
      · have hput : ({ askedAtPurge (some v) n t with ctlAttn := t.ctlAttn || alarmsAtPurge (some v) } : State).svc m =
            t.svc m := by
          rw [askedAtPurge_rest]
          rfl
        rw [if_neg hm, hput, h.svc m]
        simp [hm]
    · rw [hasked, hv]
      exact askedAtPurge_requests (some v) h.requests
    · rw [hasked, hv]
      exact askedAtPurge_keyAttn (some v) h.keyAttn
    · rw [hany, hv, ← Bool.or_assoc, ← h.ctlAttn]
      rfl
    · rw [askedAtPurge_rest]
      generalize (askedAtPurge (some v) n t).requests = requests
      generalize (askedAtPurge (some v) n t).keyAttn = attn
      rw [h.rest]
      rfl

theorem purged_of_nodup {l : List Svc} (h : l.Nodup) (s : State) :
    Purged s l (l.foldl (fun t n => purgeService n t) s) := by
  induction l using List.reverseRecOn with
  | nil => exact .nil s
  | append_singleton l n ih =>
    obtain ⟨hl, -, hdisjoint⟩ := List.nodup_append.mp h
    rw [List.foldl_append]
    exact (ih hl).step fun hn => hdisjoint n hn n (List.mem_singleton_self n) rfl

/-- The count of KEY_PURGE's answer (R154). -/
theorem scrambledParticipants_eq (s : State) :
    scrambledParticipants s = (allServices.filter fun n => (s.svc n).any placedAtPurge).length := by
  unfold scrambledParticipants State.participants
  induction allServices with
  | nil => rfl
  | cons n l ih =>
    rw [List.filterMap_cons, List.filter_cons]
    cases hv : s.svc n with
    | none => simpa [hv] using ih
    | some v =>
      have hplaced : (Option.any placedAtPurge (some v)) = (v.participant && v.cfg.protection == .scrambled) := rfl
      rw [hplaced]
      cases hpart : v.participant with
      | false => simpa [hpart, hv] using ih
      | true =>
        cases hscr : v.cfg.protection == .scrambled with
        | false => simpa [hpart, hscr, hv] using ih
        | true => simpa [hpart, hscr, hv] using ih

theorem scrambledParticipants_countTake (p : PortId) (s : State) :
    scrambledParticipants (countTake p s) = scrambledParticipants s := by
  simp only [scrambledParticipants_eq, countTake, State.setPort_svc]

theorem purgeKeys_countTake (p : PortId) (s : State) :
    purgeKeys (countTake p s) = (countTake p (purgeKeys s).1, (purgeKeys s).2) := by
  unfold purgeKeys
  dsimp only
  rw [foldl_purgeService_countTake, scrambledParticipants_countTake]

theorem purged_purgeKeys (s : State) : Purged s allServices (purgeKeys s).1 := by
  unfold purgeKeys
  dsimp only
  exact purged_of_nodup nodup_allServices s

theorem answer_purgeKeys (s : State) :
    (purgeKeys s).2 = { code := .ok, fields := [byteOf (scrambledParticipants s)] } := by
  unfold purgeKeys
  rfl

/-- Settles O30: the purge goes through the services once each. -/
theorem keyPurgeEmptiesEverySlot : Obligations.KeyPurgeEmptiesEverySlot := by
  intro s hrest placed enters asked
  obtain ⟨hsvc, hrequests, hattn, hctl, hstands⟩ := purged_purgeKeys s
  have hexec := exec_request (i := .keyPurge) rfl hrest (purgeKeys_countTake .key s)
  rw [answer_purgeKeys, scrambledParticipants_eq] at hexec
  generalize (purgeKeys s).1 = t at *
  have hkey : t.key = s.key := by rw [hstands]
  refine ⟨_, hexec, ?_, fun n => (hsvc n).trans (if_pos (mem_allServices n)), ?_⟩
  · rw [← hkey]
    rfl
  · have hasked : asked = askedAtPurges s allServices := rfl
    have halarms : t.ctlAttn = (s.ctlAttn || allServices.any fun n => (s.svc n).any fun v =>
        enters v && v.faults.entries.isEmpty) := hctl
    rw [hasked, ← hrequests, ← hattn, ← halarms]
    exact congrArg (fun u : State => ({ u with key := (t.answered .key 0x42 0
      [byteOf (allServices.filter fun n => (s.svc n).any placed).length]).key } : State)) hstands

/-! ## Banks with users -/

/-- A bank with users holds what it held. -/
def KeepsUsedBank (k : Bank) (s t : State) : Prop := 0 < s.quant.users k → t.quant.bank k = s.quant.bank k

variable {k : Bank}

theorem KeepsUsedBank.of_quant (h : t.quant = s.quant) : KeepsUsedBank k s t := fun _ => by rw [h]

theorem bank_addUser (q : Quantizer) (x k : Bank) : (q.addUser x).bank k = q.bank k := by cases x <;> rfl

theorem bank_dropUser (q : Quantizer) (x k : Bank) : (q.dropUser x).bank k = q.bank k := by cases x <;> rfl

/-- Every move but a load leaves the contents of the banks as they are. -/
theorem Move.bank {sc : Scope} (hl : ¬ sc.loads) (h : Move sc s t) (k : Bank) : t.quant.bank k = s.quant.bank k := by
  cases h with
  | quiet _ h => rw [(congrArg State.quant h :)]
  | loaded _ _ hloads => exact absurd hloads hl
  | fault n code =>
    cases hv : s.svc n with
    | none => rw [raiseFault_none n code s hv]
    | some v => rw [raiseFault_some n code s v hv]; rfl
  | check => rw [recordCheck_eq]
  | appended h =>
    obtain ⟨v, -, -, rfl⟩ := appendCell_some _ _ _ _ h
    rfl
  | released | acknowledged | checkCleared =>
    unfold dropCtlAttn
    split <;> rfl
  | opened => exact bank_addUser _ _ k
  | closed => exact bank_dropUser _ _ k
  | cleared => cases k <;> rfl
  | entry | asked | dropped | due | ended | started | created | modified | muxSet
  | frameBegun | slotPulled | taken | worked | finished | admitted => rfl

/-- The scope of the commands that load no weights. -/
def loadless : Scope := { strict := False, rekeys := True, loads := False, notes := True }

theorem Moves.keepsUsedBank (h : Moves loadless s t) (k : Bank) : KeepsUsedBank k s t := fun _ =>
  h.keeps (P := fun u => u.quant.bank k = s.quant.bank k) (fun _ _ hmove hu => (hmove.bank id k).trans hu) rfl

/-- WEIGHTS_LOAD writes the inactive bank, and that only without users (R44). -/
theorem loadWeights_keepsUsedBank (intra predicted : WeightTable) (k : Bank) (s : State) :
    KeepsUsedBank k s (loadWeights intra predicted s).1 := by
  intro husers
  unfold loadWeights
  split_ifs with hbusy
  · rfl
  · rfl
  · have hne : k ≠ s.quant.active.other := fun h => hbusy (h ▸ husers)
    have hload (q : Quantizer) (hq : k ≠ q.active.other) : (q.load intra predicted).bank k = q.bank k := by
      unfold Quantizer.load
      cases hactive : q.active <;> cases k <;> simp_all [Quantizer.bank, Bank.other]
    exact hload s.quant hne

theorem runRequest_keepsUsedBank (r : Request) (k : Bank) (s : State) : KeepsUsedBank k s (runRequest r s).1 := by
  by_cases hwrites : writesBank r
  · cases r with
    | weightsLoad intra predicted => exact loadWeights_keepsUsedBank intra predicted k s
    | _ => exact hwrites.elim
  · exact (runRequest_moves (sc := loadless) r s (fun _ => trivial) hwrites).keepsUsedBank k

theorem takeRequest_keepsUsedBank (p : PortId) (r : Request) (k : Bank) (s : State) :
    KeepsUsedBank k s (takeRequest p r s) := by
  intro husers
  have hcount : (countTake p s).quant = s.quant := countTake_quant p s
  rw [takeRequest, holdResponse, State.setPort_quant]
  exact (runRequest_keepsUsedBank r k (countTake p s) (by rwa [hcount])).trans (by rw [hcount])

theorem endFrame_keepsUsedBank (p : PortId) (received : List Byte) (k : Bank) (s : State) :
    KeepsUsedBank k s (endFrame p received s) := by
  have hclose (rx : List Byte) : (closeFrame p rx s).quant = s.quant := State.setPort_quant ..
  have hrefuse (code : Byte) (resp : RespCode) (t : State) : (refuseRequest p code resp t).quant = t.quant := by
    rw [refuseRequest, holdResponse, State.setPort_quant, countTake_quant]
  have hcheck (c : CheckClass) (t : State) : (recordCheck c none none t).quant = t.quant := by rw [recordCheck_eq]
  unfold endFrame
  dsimp only
  split_ifs
  · exact .of_quant (hclose _)
  · exact .of_quant ((hcheck _ _).trans (hclose _))
  · split
    · exact .of_quant ((hrefuse _ _ _).trans ((hcheck _ _).trans (hclose _)))
    · exact .of_quant ((hrefuse _ _ _).trans (hclose _))
    · intro husers
      exact (takeRequest_keepsUsedBank p _ k _ (by rwa [hclose])).trans (by rw [hclose])

/-- A command of a part with nothing outstanding leaves a bank with users as it is. -/
theorem exec_keepsUsedBank {c : Instr} (hdue : s.frameDue = []) (hline : isLineCommand c = false)
    (h : exec c s = .next t) (k : Bank) : KeepsUsedBank k s t := by
  cases hrst : s.rstAsserted with
  | true =>
    rw [exec_of_asserted c hrst hline] at h
    obtain rfl := Host.Outcome.next.inj h
    exact .of_quant rfl
  | false =>
    cases hexp : expiryOf c with
    | some x =>
      have hsame (hnext : exec c s = .next (expire x s)) : KeepsUsedBank k s t := by
        have hgone : x ∉ s.frameDue := by simp [hdue]
        rw [hnext, expire, hrst, takeOutstanding, if_neg hgone] at h
        obtain rfl := Host.Outcome.next.inj h
        exact .of_quant rfl
      cases c <;> cases hexp <;> exact hsame rfl
    | none =>
      have hsettle : settle s = s := settle_of_nil s hdue
      have hmoves (hload : ¬ mayLoad (settle s) c) : KeepsUsedBank k s t := by
        have hall := exec_moves (sc := loadless) c hline hexp hrst (fun _ => trivial) hload (fun _ => trivial) h
        rw [hsettle] at hall
        exact hall.keepsUsedBank k
      cases c with
      | portFrameEnd p received =>
        rw [operate_next (f := endFrame p received) rfl hrst h, hsettle]
        exact endFrame_keepsUsedBank p received k s
      | weightsLoad intra predicted =>
        rw [operate_next (f := takeRequest .control (.weightsLoad intra predicted)) rfl hrst h, hsettle]
        exact takeRequest_keepsUsedBank _ _ k s
      | _ => exact hmoves id

/-! ## The current key -/

/-- A load leaves a service with a key in its current slot in its phase and with that key (R150). -/
theorem storeKey_keepsCurrent {ph : Phase} {key : BitVec 64} {payload : List Byte} (hv : s.svc n = some v)
    (hfree : ¬ (ph = v.keys.phase ∧ v.keys.current.isSome = true)) (hw : s.svc m = some w)
    (hkey : w.keys.current.isSome = true) :
    ∃ x, (storeKey n v ph key payload s).svc m = some x ∧ x.keys.phase = w.keys.phase ∧
      x.keys.current = w.keys.current := by
  by_cases hm : m = n
  · subst hm
    obtain rfl := Option.some.inj (hv.symm.trans hw)
    have hph : ph ≠ v.keys.phase := fun h => hfree ⟨h, hkey⟩
    rw [storeKey_of_stays hv fun h => hph h.2.1]
    refine ⟨_, svc_putSvc_self _ m _, setSlot_phase .., ?_⟩
    rw [KeyCtx.current, show (loadedKeys v ph key payload).phase = v.keys.phase from setSlot_phase ..]
    exact setSlot_slot_of_ne v.keys hph.symm _
  · refine ⟨w, ?_, rfl, rfl⟩
    by_cases hends : endsBlackout v ph
    · rw [storeKey_of_ends hv hends, putDrained_svc_of_ne hm, askedIf_svc]
      exact hw
    · rw [storeKey_of_stays hv hends, State.svc_putSvc, if_neg hm]
      exact hw

theorem loadKey_keepsCurrent {pb : Byte} {expected : Half} {key : BitVec 64} {payload : List Byte}
    (hw : s.svc m = some w) (hkey : w.keys.current.isSome = true) :
    ∃ x, (loadKey b pb expected key payload s).1.svc m = some x ∧ x.keys.phase = w.keys.phase ∧
      x.keys.current = w.keys.current := by
  unfold loadKey
  split
  · exact ⟨w, hw, rfl, rfl⟩
  · next n v hnamed =>
    dsimp only
    split_ifs with _ _ _ hfree
    · exact ⟨w, hw, rfl, rfl⟩
    · exact ⟨w, hw, rfl, rfl⟩
    · exact ⟨w, hw, rfl, rfl⟩
    · exact ⟨w, hw, rfl, rfl⟩
    · exact storeKey_keepsCurrent (named_eq_some hnamed) hfree hw hkey

/-- Settles O19: banks by moves that load none, current keys by the entry a load changes. -/
theorem usedBanksAndCurrentKeysStand : Obligations.UsedBanksAndCurrentKeysStand := by
  refine ⟨fun c s t k hdue hline hexec => exec_keepsUsedBank hdue hline hexec k, ?_⟩
  intro s t b pb expected key payload m v hdue hexec hv hkey
  cases hrst : s.rstAsserted with
  | true =>
    rw [exec_of_asserted _ hrst rfl] at hexec
    obtain rfl := Host.Outcome.next.inj hexec
    exact ⟨v, hv, rfl, rfl⟩
  | false =>
    obtain rfl := operate_next (f := takeRequest .key (.keyLoad b pb expected key payload)) rfl hrst hexec
    rw [settle_of_nil s hdue, takeRequest, holdResponse, State.setPort_svc]
    exact loadKey_keepsCurrent (s := countTake .key s) hv hkey

end Sys2Proof.Proofs
end


section
/-! PROOF. The contribution link: how a message is read, and what an arrival does (R22, R36, R192). -/

namespace Sys2Proof.Proofs
open Sys2Proof.Machine

variable {s t u : State} {n m : Svc} {v w : Service} {b : Byte}

/-! ## A message laid out -/

theorem half_of_be16Of {k : Nat} (h : k < 2 ^ 16) :
    ((BitVec.ofNat 16 k).extractLsb' 8 8 ++ (BitVec.ofNat 16 k).extractLsb' 0 8 : Half).toNat = k := by
  rw [half_bytes, BitVec.toNat_ofNat, Nat.mod_eq_of_lt h]

/-- A message laid out by R192 is read as its body is. -/
theorem readBurst_laidOut {kind svc : Byte} {body : List Byte} (hsvc : svc.toNat = n.val) (hlen : body.length < 2 ^ 16) :
    readBurst (kind :: svc :: (be16Of body.length ++ body)
      ++ be16 (crc16 (kind :: svc :: (be16Of body.length ++ body)))) = readBody kind n body := by
  set front := kind :: svc :: (be16Of body.length ++ body) with hfront
  set crc := crc16 front with hcrc
  have hburst : front ++ be16 crc = kind :: svc :: (BitVec.ofNat 16 body.length).extractLsb' 8 8 ::
      (BitVec.ofNat 16 body.length).extractLsb' 0 8 :: (body ++ be16 crc) := rfl
  have htake : (front ++ be16 crc).take (4 + body.length) = front := by
    refine List.take_left' ?_
    simp [hfront, be16Of, be16]
    omega
  rw [hburst, readBurst]
  rw [← hburst, half_of_be16Of hlen, List.drop_left, List.take_left, htake, be16]
  dsimp only
  rw [half_bytes, if_pos hcrc.symm, svcIndex_of_toNat svc n hsvc]

/-! ## Fields and coefficients -/

theorem low_seven_bits (junk : BitVec 1) (x : BitVec 7) : (junk ++ x : Byte).extractLsb' 0 7 = x := by
  rw [BitVec.extractLsb'_append_eq_of_add_le (by decide)]
  exact BitVec.extractLsb'_eq_self

/-- Three bytes of a block's data carry two coefficients (R192). -/
theorem coefficients_cons (x : BitVec 12 × BitVec 12) (rest : List Byte) :
    coefficients ([x.1.extractLsb' 4 8, (x.1.extractLsb' 0 4 ++ x.2.extractLsb' 8 4 : Byte), x.2.extractLsb' 0 8] ++ rest) =
      x.1 :: x.2 :: coefficients rest := by
  have hhigh : (x.1.extractLsb' 0 4 ++ x.2.extractLsb' 8 4 : Byte).extractLsb' 4 4 = x.1.extractLsb' 0 4 := by
    rw [BitVec.extractLsb'_append_eq_of_le (by decide)]
    exact BitVec.extractLsb'_eq_self
  have hlow : (x.1.extractLsb' 0 4 ++ x.2.extractLsb' 8 4 : Byte).extractLsb' 0 4 = x.2.extractLsb' 8 4 := by
    rw [BitVec.extractLsb'_append_eq_of_add_le (by decide)]
    exact BitVec.extractLsb'_eq_self
  have hfirst : (x.1.extractLsb' 4 8 ++ x.1.extractLsb' 0 4 : BitVec 12) = x.1 :=
    (append_extractLsb' x.1 0 4 8).trans BitVec.extractLsb'_eq_self
  have hsecond : (x.2.extractLsb' 8 4 ++ x.2.extractLsb' 0 8 : BitVec 12) = x.2 :=
    (append_extractLsb' x.2 0 8 4).trans BitVec.extractLsb'_eq_self
  rw [List.cons_append, List.cons_append, List.cons_append, List.nil_append, coefficients, hhigh, hlow, hfirst, hsecond]

/-- The bytes of a block's coefficients (R192). -/
def blockBytes (d : List (BitVec 12 × BitVec 12)) : List Byte :=
  d.flatMap fun x => [x.1.extractLsb' 4 8, (x.1.extractLsb' 0 4 ++ x.2.extractLsb' 8 4 : Byte), x.2.extractLsb' 0 8]

theorem coefficients_blockBytes (d : List (BitVec 12 × BitVec 12)) :
    coefficients (blockBytes d) = d.flatMap fun x => [x.1, x.2] := by
  induction d with
  | nil => rfl
  | cons x d ih =>
    rw [blockBytes, List.flatMap_cons, coefficients_cons, List.flatMap_cons]
    exact congrArg (fun l => x.1 :: x.2 :: l) ih

theorem length_blockBytes {d : List (BitVec 12 × BitVec 12)} (h : d.length = 8) : (blockBytes d).length = 24 := by
  simp [blockBytes, List.length_flatMap, h]

theorem readBlocks_blockBytes {data : List (List (BitVec 12 × BitVec 12))} (h : ∀ d ∈ data, d.length = 8) :
    readBlocks data.length (data.flatMap blockBytes) = data.map fun d => d.flatMap fun x => [x.1, x.2] := by
  induction data with
  | nil => rfl
  | cons d data ih =>
    have hlen : (blockBytes d).length = 24 := length_blockBytes (h d List.mem_cons_self)
    rw [List.flatMap_cons, List.length_cons, readBlocks, List.take_left' hlen, List.drop_left' hlen,
      coefficients_blockBytes, ih fun x hx => h x (List.mem_cons_of_mem _ hx), List.map_cons]

theorem length_flatMap_blockBytes {data : List (List (BitVec 12 × BitVec 12))} (h : ∀ d ∈ data, d.length = 8) :
    (data.flatMap blockBytes).length = 24 * data.length := by
  induction data with
  | nil => rfl
  | cons d data ih =>
    rw [List.flatMap_cons, List.length_append, length_blockBytes (h d List.mem_cons_self),
      ih fun x hx => h x (List.mem_cons_of_mem _ hx), List.length_cons]
    omega

/-- Settles O31: the burst is read as its body, and the body field by field. -/
theorem burstReadsBackItsRecord : Obligations.BurstReadsBackItsRecord := by
  intro kind svc n body hsvc hlen front burst
  have hread : readBurst burst = readBody kind n body := readBurst_laidOut hsvc (by omega)
  rw [hread]
  refine ⟨fun number intra stripes blocks junk1 junk2 complexity hkind hbody => ?head,
    fun data hkind hone hmax height hbody => ?blocks, fun number hkind hbody => ?tail⟩
  case head =>
    subst hkind hbody
    cases intra with
    | false =>
      change some (Record.picHead n (number.extractLsb' 8 8 ++ number.extractLsb' 0 8) .predicted
        ((junk1 ++ stripes : Byte).extractLsb' 0 7).toNat ((junk2 ++ blocks : Byte).extractLsb' 0 7).toNat
        (complexity.extractLsb' 8 8 ++ complexity.extractLsb' 0 8 : Half).toNat) = _
      rw [half_bytes, half_bytes, low_seven_bits, low_seven_bits]
      rfl
    | true =>
      change some (Record.picHead n (number.extractLsb' 8 8 ++ number.extractLsb' 0 8) .intra
        ((junk1 ++ stripes : Byte).extractLsb' 0 7).toNat ((junk2 ++ blocks : Byte).extractLsb' 0 7).toNat
        (complexity.extractLsb' 8 8 ++ complexity.extractLsb' 0 8 : Half).toNat) = _
      rw [half_bytes, half_bytes, low_seven_bits, low_seven_bits]
      rfl
  case blocks =>
    subst hkind
    have hcount : (byteOf data.length).toNat = data.length := by
      rw [byteOf, BitVec.toNat_ofNat, Nat.mod_eq_of_lt (by omega)]
    have hbytes : body = byteOf data.length :: data.flatMap blockBytes := hbody
    rw [hbytes]
    have hform : readBody 0x02 n (byteOf data.length :: data.flatMap blockBytes) =
        if 1 ≤ (byteOf data.length).toNat ∧ (byteOf data.length).toNat ≤ 8 ∧
          (data.flatMap blockBytes).length = 24 * (byteOf data.length).toNat then
          some (.blocks n (readBlocks (byteOf data.length).toNat (data.flatMap blockBytes)))
        else none := rfl
    rw [hform, hcount, if_pos ⟨hone, hmax, length_flatMap_blockBytes height⟩, readBlocks_blockBytes height]
  case tail =>
    subst hkind hbody
    change some (Record.picTail n (number.extractLsb' 8 8 ++ number.extractLsb' 0 8)) = _
    rw [half_bytes]

/-! ## Bursts that cannot be read -/

theorem kind_eq_iff {kind : Byte} {k : Nat} (hk : k < 256) : kind = BitVec.ofNat 8 k ↔ kind.toNat = k := by
  rw [← BitVec.toNat_inj, BitVec.toNat_ofNat, Nat.mod_eq_of_lt hk]

/-- A body that no record of the kind has (R192). -/
def bodyUnreadable (kind : Byte) (body : List Byte) : Prop :=
  (kind.toNat ≠ 1 ∧ kind.toNat ≠ 2 ∧ kind.toNat ≠ 3) ∨
    (kind.toNat = 1 ∧ (body.length ≠ 7 ∨ 1 < (body.getD 2 0).toNat)) ∨
    (kind.toNat = 2 ∧ ((body.getD 0 0).toNat = 0 ∨ 8 < (body.getD 0 0).toNat ∨
      body.length ≠ 1 + 24 * (body.getD 0 0).toNat)) ∨
    (kind.toNat = 3 ∧ body.length ≠ 2)

theorem readHead_eq_none_iff (n : Svc) (body : List Byte) :
    readBody 0x01 n body = none ↔ body.length ≠ 7 ∨ 1 < (body.getD 2 0).toNat := by
  by_cases hlen : body.length = 7
  · match body, hlen with
    | [n1, n0, kd, x, y, c1, c0], _ =>
      have hkd : (kd ≠ 0 ∧ kd ≠ 1) ↔ 1 < kd.toNat := by
        have h0 : kd = 0 ↔ kd.toNat = 0 := kind_eq_iff (by decide)
        have h1 : kd = 1 ↔ kd.toNat = 1 := kind_eq_iff (by decide)
        rw [ne_eq, ne_eq, h0, h1]
        omega
      simp only [readBody, if_true, List.length_cons, List.length_nil, List.getD_cons_succ, List.getD_cons_zero]
      split_ifs with h0 h1
      · simp [h0]
      · simp [h1]
      · simpa using hkd.mp ⟨h0, h1⟩
  · refine iff_of_true ?_ (.inl hlen)
    unfold readBody
    rw [if_pos rfl]
    split
    · exact absurd rfl hlen
    · rfl

theorem readBlocksBody_eq_none_iff (n : Svc) (body : List Byte) :
    readBody 0x02 n body = none ↔
      (body.getD 0 0).toNat = 0 ∨ 8 < (body.getD 0 0).toNat ∨ body.length ≠ 1 + 24 * (body.getD 0 0).toNat := by
  cases body with
  | nil => exact iff_of_true rfl (.inl rfl)
  | cons cnt data =>
    have hform : readBody 0x02 n (cnt :: data) = if 1 ≤ cnt.toNat ∧ cnt.toNat ≤ 8 ∧ data.length = 24 * cnt.toNat then
        some (.blocks n (readBlocks cnt.toNat data)) else none := rfl
    rw [hform, List.getD_cons_zero, List.length_cons]
    split_ifs with h
    · exact iff_of_false not_false (by omega)
    · exact iff_of_true rfl (by omega)

theorem readTail_eq_none_iff (n : Svc) (body : List Byte) : readBody 0x03 n body = none ↔ body.length ≠ 2 := by
  by_cases hlen : body.length = 2
  · match body, hlen with
    | [n1, n0], _ => exact iff_of_false (Option.some_ne_none _) (by simp)
  · refine iff_of_true ?_ hlen
    unfold readBody
    rw [if_neg (by decide), if_neg (by decide), if_pos rfl]
    split
    · exact absurd rfl hlen
    · rfl

theorem readBody_eq_none_iff (kind : Byte) (n : Svc) (body : List Byte) :
    readBody kind n body = none ↔ bodyUnreadable kind body := by
  have hkind1 : kind = 0x01 ↔ kind.toNat = 1 := kind_eq_iff (by decide)
  have hkind2 : kind = 0x02 ↔ kind.toNat = 2 := kind_eq_iff (by decide)
  have hkind3 : kind = 0x03 ↔ kind.toNat = 3 := kind_eq_iff (by decide)
  unfold bodyUnreadable
  by_cases h1 : kind.toNat = 1
  · obtain rfl := hkind1.mpr h1
    rw [readHead_eq_none_iff]
    simp
  by_cases h2 : kind.toNat = 2
  · obtain rfl := hkind2.mpr h2
    rw [readBlocksBody_eq_none_iff]
    simp
  by_cases h3 : kind.toNat = 3
  · obtain rfl := hkind3.mpr h3
    rw [readTail_eq_none_iff]
    simp
  refine iff_of_true ?_ (.inl ⟨h1, h2, h3⟩)
  unfold readBody
  rw [if_neg fun h => h1 (hkind1.mp h), if_neg fun h => h2 (hkind2.mp h),
    if_neg fun h => h3 (hkind3.mp h)]

/-- The record of a burst cut into its fields (R22, R192). -/
theorem readBurst_fields (kind svc l1 l0 : Byte) (body : List Byte) (x1 x0 : Byte)
    (hlen : body.length = (l1 ++ l0 : Half).toNat) :
    readBurst (kind :: svc :: l1 :: l0 :: (body ++ [x1, x0])) =
      if crc16 (kind :: svc :: l1 :: l0 :: body) = x1 ++ x0 then
        match svcIndex svc with
        | some n => readBody kind n body
        | none => none
      else none := by
  have htake : (kind :: svc :: l1 :: l0 :: (body ++ [x1, x0])).take (4 + body.length) = kind :: svc :: l1 :: l0 :: body :=
    List.take_left' (l₁ := kind :: svc :: l1 :: l0 :: body) (by simp; omega)
  rw [readBurst, ← hlen, List.drop_left, List.take_left, htake] <;> rfl

theorem half_toNat (x y : Byte) : (x ++ y : Half).toNat = 256 * x.toNat + y.toNat := by
  rw [BitVec.toNat_append, ← Nat.shiftLeft_add_eq_or_of_lt y.isLt, Nat.shiftLeft_eq]
  omega

/-- A burst long enough for its length field is cut into fields. -/
theorem burst_fields {burst : List Byte} {len : Nat} (h : burst.length = 6 + len) :
    ∃ kind svc l1 l0 body x1 x0, burst = kind :: svc :: l1 :: l0 :: (body ++ [x1, x0]) ∧ body.length = len := by
  match burst, h with
  | [], h | [_], h | [_, _], h | [_, _, _], h =>
    simp only [List.length_cons, List.length_nil] at h
    omega
  | kind :: svc :: l1 :: l0 :: rest, h =>
    simp only [List.length_cons] at h
    obtain ⟨x1, x0, hcrc⟩ := List.length_eq_two.mp (show (rest.drop len).length = 2 by rw [List.length_drop]; omega)
    refine ⟨kind, svc, l1, l0, rest.take len, x1, x0, ?_, ?_⟩
    · rw [← hcrc, List.take_append_drop]
    · rw [List.length_take]
      omega

theorem readBurst_of_length {burst : List Byte} (h : burst.length < 6 ∨
    burst.length ≠ 6 + (256 * (burst.getD 2 0).toNat + (burst.getD 3 0).toNat)) : readBurst burst = none := by
  unfold readBurst
  split
  · next kind svc l1 l0 rest =>
    dsimp only
    split
    · next x1 x0 hdrop =>
      have hlen := congrArg List.length hdrop
      simp only [List.length_drop, List.length_cons, List.length_nil, half_toNat, List.getD_cons_succ, List.getD_cons_zero] at h hlen
      omega
    · rfl
  · rfl

/-- The bytes that a burst cut into its fields has at fixed places, and its front (R192). -/
theorem burst_bytes (kind svc l1 l0 : Byte) (body : List Byte) (x1 x0 : Byte) :
    (kind :: svc :: l1 :: l0 :: (body ++ [x1, x0])).getD (4 + body.length) 0 = x1 ∧
      (kind :: svc :: l1 :: l0 :: (body ++ [x1, x0])).getD (5 + body.length) 0 = x0 ∧
      (kind :: svc :: l1 :: l0 :: (body ++ [x1, x0])).take (4 + body.length) = kind :: svc :: l1 :: l0 :: body := by
  refine ⟨?_, ?_, List.take_left' (l₁ := kind :: svc :: l1 :: l0 :: body) (by simp; omega)⟩
  · rw [Nat.add_comm]
    simp
  · rw [show 5 + body.length = body.length + 1 + 4 by omega]
    simp

/-- What a burst shows of a body that its kind does not have. -/
theorem bodyUnreadable_iff (kind : Byte) (body : List Byte) (x1 x0 : Byte) :
    bodyUnreadable kind body ↔ (kind.toNat ≠ 1 ∧ kind.toNat ≠ 2 ∧ kind.toNat ≠ 3) ∨
      (kind.toNat = 1 ∧ (body.length ≠ 7 ∨ 1 < ((body ++ [x1, x0]).getD 2 0).toNat)) ∨
      (kind.toNat = 2 ∧ (((body ++ [x1, x0]).getD 0 0).toNat = 0 ∨ 8 < ((body ++ [x1, x0]).getD 0 0).toNat ∨
        body.length ≠ 1 + 24 * ((body ++ [x1, x0]).getD 0 0).toNat)) ∨
      (kind.toNat = 3 ∧ body.length ≠ 2) := by
  have hthird : body.length ≠ 7 ∨ (body ++ [x1, x0]).getD 2 0 = body.getD 2 0 := by
    refine or_iff_not_imp_left.mpr fun h => List.getD_append _ _ _ _ (by omega)
  have hfirst : body = [] ∨ (body ++ [x1, x0]).getD 0 0 = body.getD 0 0 := by
    cases body with
    | nil => exact .inl rfl
    | cons => exact .inr rfl
  unfold bodyUnreadable
  refine or_congr_right (or_congr (and_congr_right fun _ => ?_) (or_congr_left (and_congr_right fun _ => ?_)))
  · rcases hthird with h | h
    · exact iff_of_true (.inl h) (.inl h)
    · rw [h]
  · rcases hfirst with rfl | h
    · exact iff_of_true (.inl rfl) (.inr (.inr fun h => by rw [List.length_nil] at h; omega))
    · rw [h]

theorem svcIndex_eq_none_iff (b : Byte) : svcIndex b = none ↔ 15 < b.toNat := by
  unfold svcIndex
  split_ifs with h
  · exact iff_of_false not_false (by omega)
  · exact iff_of_true rfl (by omega)

/-- Which bursts cannot be read (R192). -/
theorem burstUnreadable_iff (burst : List Byte) : burstUnreadable burst ↔ readBurst burst = none := by
  by_cases hlen : burst.length < 6 ∨ burst.length ≠ 6 + (256 * (burst.getD 2 0).toNat + (burst.getD 3 0).toNat)
  · exact iff_of_true (hlen.imp_right .inl) (readBurst_of_length hlen)
  obtain ⟨hsix, heq⟩ := not_or.mp hlen
  obtain ⟨kind, svc, l1, l0, body, x1, x0, rfl, hbody⟩ := burst_fields (not_not.mp heq)
  obtain ⟨hx1, hx0, hfront⟩ := burst_bytes kind svc l1 l0 body x1 x0
  simp only [List.getD_cons_succ, List.getD_cons_zero] at hbody
  have hcrc : (crc16 (kind :: svc :: l1 :: l0 :: body)).toNat ≠ 256 * x1.toNat + x0.toNat ↔
      crc16 (kind :: svc :: l1 :: l0 :: body) ≠ x1 ++ x0 := by
    rw [← half_toNat, Ne, Ne, BitVec.toNat_inj]
  have hcase : burstUnreadable (kind :: svc :: l1 :: l0 :: (body ++ [x1, x0])) ↔
      crc16 (kind :: svc :: l1 :: l0 :: body) ≠ x1 ++ x0 ∨ 15 < svc.toNat ∨ bodyUnreadable kind body := by
    have hlength : 256 * ((kind :: svc :: l1 :: l0 :: (body ++ [x1, x0])).getD 2 0).toNat +
        ((kind :: svc :: l1 :: l0 :: (body ++ [x1, x0])).getD 3 0).toNat = body.length := hbody.symm
    unfold burstUnreadable
    dsimp only
    rw [or_iff_right hsix, or_iff_right heq, hlength, hx1, hx0, hfront, hcrc, bodyUnreadable_iff kind body x1 x0]
    exact or_congr_right or_left_comm
  rw [hcase, readBurst_fields _ _ _ _ _ _ _ (hbody.trans (half_toNat l1 l0).symm)]
  by_cases hsum : crc16 (kind :: svc :: l1 :: l0 :: body) = x1 ++ x0
  · rw [if_pos hsum]
    cases hsvc : svcIndex svc with
    | none => exact iff_of_true (.inr (.inl ((svcIndex_eq_none_iff svc).mp hsvc))) rfl
    | some n =>
      have hnot : ¬ 15 < svc.toNat := fun h => by
        rw [(svcIndex_eq_none_iff svc).mpr h] at hsvc
        cases hsvc
      simp [hsum, hnot, readBody_eq_none_iff]
  · rw [if_neg hsum]
    exact iff_of_true (.inl hsum) rfl

/-! ## Arrivals -/

theorem exec_linkMessageArrival (hrest : s.atRest) (burst : List Byte) :
    exec (.linkMessageArrival burst) s = .next (arriveMessage burst s) :=
  congrArg Host.Outcome.next (operate_of_rest _ _ hrest.1 hrest.2)

theorem arriveMessage_of_no_credit (h : s.credits = 0) (burst : List Byte) :
    arriveMessage burst s = recordCheck .linkOverrun (burstService burst) none s := if_pos h

theorem arriveMessage_of_unreadable {burst : List Byte} (h : 0 < s.credits) (hread : readBurst burst = none) :
    arriveMessage burst s = recordCheck .linkCrc (burstService burst) none { s with clCredit := s.clCredit + 1 } := by
  rw [arriveMessage, if_neg h.ne', hread]
  rfl

theorem arriveMessage_of_unrouted {burst : List Byte} {r : Record} (h : 0 < s.credits) (hread : readBurst burst = some r)
    (hpart : s.isParticipant r.service = false) :
    arriveMessage burst s = recordCheck .unrouted (burstService burst) none { s with clCredit := s.clCredit + 1 } := by
  rw [arriveMessage, if_neg h.ne', hread]
  dsimp only
  rw [hpart]
  rfl

theorem arriveMessage_of_participant {burst : List Byte} {r : Record} (h : 0 < s.credits)
    (hread : readBurst burst = some r) (hv : s.svc r.service = some v) (hact : v.activity ≠ .defined) :
    arriveMessage burst s = ({ s with credits := s.credits - 1, ingestQueue := s.ingestQueue ++ [r] } : State).putSvc r.service
      (some { v with ingest := { v.ingest with silence := 0, expired := false } }) := by
  have hpart : s.isParticipant r.service = true := by
    rw [State.isParticipant, hv]
    exact (participant_iff v).mpr hact
  rw [arriveMessage, if_neg h.ne', hread]
  dsimp only
  rw [if_pos hpart]
  exact State.modSvc_some ({ s with credits := s.credits - 1, ingestQueue := s.ingestQueue ++ [r] } : State) r.service _ v hv

theorem crc16_digits : crc16 [0x31, 0x32, 0x33, 0x34, 0x35, 0x36, 0x37, 0x38, 0x39] = 0x29B1 := by decide +kernel

/-- Settles O32, by the tests of an arrival in their order. -/
theorem linkArrivalOutcomes : Obligations.LinkArrivalOutcomes := by
  refine ⟨⟨crc16_digits, burstUnreadable_iff⟩, fun s burst hrest => ⟨fun h => ?overrun, fun h hbad => ?crc,
    fun r h hread => ⟨fun hdefined => ?unrouted, fun v hv hact => ?admitted⟩⟩⟩
  case overrun => rw [exec_linkMessageArrival hrest, arriveMessage_of_no_credit h]
  case crc =>
    rw [exec_linkMessageArrival hrest, arriveMessage_of_unreadable h ((burstUnreadable_iff burst).mp hbad)]
  case unrouted =>
    have hpart : s.isParticipant r.service = false := by
      rw [State.isParticipant]
      cases hv : s.svc r.service with
      | none => rfl
      | some v => exact participant_of_defined (hdefined v hv)
    rw [exec_linkMessageArrival hrest, arriveMessage_of_unrouted h hread hpart]
  case admitted => rw [exec_linkMessageArrival hrest, arriveMessage_of_participant h hread hv hact]

end Sys2Proof.Proofs
end


section
/-! PROOF. The division of an allocation period by largest remainders (R104 to R107). -/

namespace Sys2Proof.Proofs
open Sys2Proof.Machine

variable {s t u : State} {n m : Svc} {v w : Service}

/-! ## Counting by rank -/

section
variable {α : Type} (r : α → α → Bool)

/-- The number of elements of a list that go before an element. -/
def rankIn (l : List α) (x : α) : Nat := (l.filter fun y => r y x).length

variable {r} {l : List α}

theorem rankIn_lt_length (hirr : ∀ x, r x x = false) {x : α} (hx : x ∈ l) : rankIn r l x < l.length := by
  rw [rankIn, List.length_filter_lt_length_iff_exists]
  exact ⟨x, hx, by simp [hirr x]⟩

theorem rankIn_lt_rankIn (hirr : ∀ x, r x x = false) (htrans : ∀ x y z, r x y = true → r y z = true → r x z = true) {x y : α}
    (hx : x ∈ l) (h : r x y = true) : rankIn r l x < rankIn r l y := by
  have hsame : (l.filter fun z => r z x) = (l.filter fun z => r z y).filter fun z => r z x := by
    rw [List.filter_filter]
    refine List.filter_congr fun z _ => ?_
    cases hz : r z x with
    | false => rfl
    | true => rw [htrans z x y hz h]; rfl
  rw [rankIn, rankIn, hsame, List.length_filter_lt_length_iff_exists]
  exact ⟨x, List.mem_filter.mpr ⟨hx, h⟩, by simp [hirr x]⟩

/-- The ranks of a strict order on a list without repetitions are the numbers below its length. -/
theorem map_rankIn_perm (hirr : ∀ x, r x x = false) (htrans : ∀ x y z, r x y = true → r y z = true → r x z = true)
    (htotal : ∀ x ∈ l, ∀ y ∈ l, x ≠ y → r x y = true ∨ r y x = true) (hl : l.Nodup) :
    (l.map (rankIn r l)).Perm (List.range l.length) := by
  have hinj : ∀ x ∈ l, ∀ y ∈ l, rankIn r l x = rankIn r l y → x = y := by
    intro x hx y hy heq
    by_contra hne
    rcases htotal x hx y hy hne with h | h
    · exact absurd heq (rankIn_lt_rankIn hirr htrans hx h).ne
    · exact absurd heq.symm (rankIn_lt_rankIn hirr htrans hy h).ne
  have hsub : (l.map (rankIn r l)) ⊆ List.range l.length := by
    intro k hk
    obtain ⟨x, hx, rfl⟩ := List.mem_map.mp hk
    exact List.mem_range.mpr (rankIn_lt_length hirr hx)
  exact (List.subperm_of_subset (hl.map_on hinj) hsub).perm_of_length_le (by simp)

theorem sum_range_below (k n : Nat) : ((List.range n).map fun i => if i < k then 1 else 0).sum = min n k := by
  induction n with
  | zero => simp
  | succ n ih =>
    rw [List.range_succ, List.map_append, List.sum_append, ih]
    simp only [List.map_cons, List.map_nil, List.sum_cons, List.sum_nil]
    split <;> omega

/-- One each for the first `k` elements of a strict order come to `k`. -/
theorem sum_first_ranks (hirr : ∀ x, r x x = false) (htrans : ∀ x y z, r x y = true → r y z = true → r x z = true)
    (htotal : ∀ x ∈ l, ∀ y ∈ l, x ≠ y → r x y = true ∨ r y x = true) (hl : l.Nodup) {k : Nat} (hk : k ≤ l.length) :
    (l.map fun x => if rankIn r l x < k then 1 else 0).sum = k := by
  have hperm := (map_rankIn_perm hirr htrans htotal hl).map fun i => if i < k then 1 else 0
  rw [List.map_map] at hperm
  exact hperm.sum_eq.trans ((sum_range_below k l.length).trans (min_eq_right hk))

end

/-! ## Largest remainders (R106) -/

section
variable {R D : Nat} {lines : List DemandLine}

theorem servedBefore_iff (y x : DemandLine) :
    servedBefore R D y x = true ↔ shareRemainder R D x < shareRemainder R D y ∨
      (shareRemainder R D x = shareRemainder R D y ∧ y.service < x.service) := by
  simp [servedBefore]

theorem servedBefore_irrefl (x : DemandLine) : servedBefore R D x x = false := by simp [servedBefore]

theorem servedBefore_trans (x y z : DemandLine) (hxy : servedBefore R D x y = true) (hyz : servedBefore R D y z = true) :
    servedBefore R D x z = true := by
  rw [servedBefore_iff] at hxy hyz ⊢
  simp only [Fin.lt_def] at *
  omega

theorem servedBefore_total (hl : (lines.map DemandLine.service).Nodup) :
    ∀ x ∈ lines, ∀ y ∈ lines, x ≠ y → servedBefore R D x y = true ∨ servedBefore R D y x = true := by
  intro x hx y hy hne
  have hservice : x.service ≠ y.service := fun h => hne (List.inj_on_of_nodup_map hl hx hy h)
  rw [servedBefore_iff, servedBefore_iff]
  have hval : x.service.val ≠ y.service.val := fun h => hservice (Fin.ext h)
  simp only [Fin.lt_def]
  omega

/-- First shares and remainders make up the whole of each product (R106). -/
theorem sum_shares (R D : Nat) (lines : List DemandLine) :
    D * (lines.map (firstShare R D)).sum + (lines.map (shareRemainder R D)).sum = R * totalDemand lines := by
  induction lines with
  | nil => simp [totalDemand]
  | cons x lines ih =>
    have hx := Nat.div_add_mod (R * x.demand) D
    simp only [totalDemand, List.map_cons, List.sum_cons, firstShare, shareRemainder, Nat.mul_add] at *
    omega

theorem sum_shareRemainder_le (hD : 0 < D) (lines : List DemandLine) :
    (lines.map (shareRemainder R D)).sum ≤ lines.length * D := by
  induction lines with
  | nil => simp
  | cons x lines ih =>
    have hx : shareRemainder R D x < D := Nat.mod_lt _ hD
    simp only [List.map_cons, List.sum_cons, List.length_cons, Nat.add_mul, Nat.one_mul]
    omega

/-- The first shares do not exceed the remainder, and at most one slot for each participant is left over. -/
theorem leftover_bounds (hD : 0 < totalDemand lines) (R : Nat) :
    (lines.map (firstShare R (totalDemand lines))).sum ≤ R ∧
      R - (lines.map (firstShare R (totalDemand lines))).sum ≤ lines.length := by
  have hsum := sum_shares R (totalDemand lines) lines
  have hrest := sum_shareRemainder_le (R := R) hD lines
  set D := totalDemand lines with hDdef
  set q := (lines.map (firstShare R D)).sum with hq
  have hle : q ≤ R := Nat.le_of_mul_le_mul_left (by rw [Nat.mul_comm D R]; omega) hD
  refine ⟨hle, Nat.le_of_mul_le_mul_right ?_ hD⟩
  rw [Nat.sub_mul, Nat.mul_comm q D]
  omega

/-- Largest remainders give out the whole remainder (R106). -/
theorem sum_extraShare (hl : (lines.map DemandLine.service).Nodup) (hD : 0 < totalDemand lines) (R : Nat) :
    (lines.map (extraShare R lines)).sum = R := by
  obtain ⟨hle, hleft⟩ := leftover_bounds hD R
  have hranks := sum_first_ranks (r := servedBefore R (totalDemand lines)) servedBefore_irrefl servedBefore_trans
    (servedBefore_total hl) (List.Nodup.of_map _ hl) hleft
  have heach : (lines.map (extraShare R lines)) = lines.map fun x => firstShare R (totalDemand lines) x +
      if rankIn (servedBefore R (totalDemand lines)) lines x < R - (lines.map (firstShare R (totalDemand lines))).sum
      then 1 else 0 := by
    refine List.map_congr_left fun x _ => ?_
    rw [extraShare]
    exact if_neg hD.ne'
  rw [heach, List.sum_map_add, hranks]
  omega

theorem extraShare_of_no_demand (hD : totalDemand lines = 0) (R : Nat) (x : DemandLine) : extraShare R lines x = 0 :=
  if_pos hD

end

/-! ## The grants of a period (R104 to R107) -/

/-- One participant's line of the division (R105). -/
def lineOf (x : Svc × Service) : DemandLine := { service := x.1, demand := x.2.demand }

theorem nodup_services (s : State) : ((s.participants.map lineOf).map DemandLine.service).Nodup := by
  rw [List.map_map]
  exact (map_fst_participants s).symm ▸ nodup_allServices.filter _

theorem totalDemand_participants (s : State) :
    totalDemand (s.participants.map lineOf) = (s.participants.map fun x => x.2.demand).sum := by
  rw [totalDemand, List.map_map]
  rfl

/-- The participants of a period with their new contexts. -/
theorem participants_allocatePeriod (s : State) :
    (allocatePeriod s).participants =
      s.participants.map fun x => (x.1, x.2.granted (grantOf s.frameStruct s.participants x.1 x.2)) := by
  unfold State.participants
  rw [List.map_filterMap]
  refine List.filterMap_congr fun n _ => ?_
  rw [allocatePeriod_svc]
  cases hv : s.svc n with
  | none => rfl
  | some v =>
    dsimp only [Option.map_some]
    by_cases hpart : v.participant = true
    · have hstill : (v.granted (grantOf s.frameStruct s.participants n v)).participant = true := hpart
      simp only [hpart, if_true]
      rw [if_pos hstill]
      rfl
    · simp only [hpart, if_false, Bool.false_eq_true]
      rfl

theorem sum_grants (s : State) :
    ((allocatePeriod s).participants.map fun x => x.2.alloc.grant).sum =
      (s.participants.map fun x => x.2.cfg.floor * s.frameStruct.a).sum +
        ((s.participants.map lineOf).map
          (extraShare (periodRemainder s.frameStruct s.participants) (s.participants.map lineOf))).sum := by
  rw [participants_allocatePeriod, List.map_map, List.map_map, ← List.sum_map_add]
  rfl

/-- A participant goes before another when the leftover is given out: a larger remainder, or an equal one and a lower
number (R106). -/
def goesBefore (R D : Nat) (x y : Svc × Service) : Bool :=
  R * y.2.demand % D < R * x.2.demand % D || (R * x.2.demand % D == R * y.2.demand % D && x.1 < y.1)

/-- The rank of a participant in the order in which the leftover is given out. -/
theorem rank_eq (R D : Nat) (l : List (Svc × Service)) (x : Svc × Service) :
    ((l.map lineOf).filter fun y => servedBefore R D y (lineOf x)).length =
      (l.filter fun y => goesBefore R D y x).length := by
  rw [List.filter_map, List.length_map]
  refine congrArg List.length (List.filter_congr fun y _ => ?_)
  rw [goesBefore, Function.comp_apply, servedBefore, BEq.comm (a := shareRemainder R D (lineOf x))]
  rfl

theorem sum_firstShare (R D : Nat) (l : List (Svc × Service)) :
    ((l.map lineOf).map (firstShare R D)).sum = (l.map fun x => R * x.2.demand / D).sum := by
  rw [List.map_map]
  rfl

theorem grantOf_of_no_demand (h : (s.participants.map fun x => x.2.demand).sum = 0) :
    grantOf s.frameStruct s.participants n v = v.cfg.floor * s.frameStruct.a := by
  rw [← totalDemand_participants] at h
  exact congrArg (v.cfg.floor * s.frameStruct.a + ·) (extraShare_of_no_demand h _ _)

theorem grantOf_of_demand (h : 0 < (s.participants.map fun x => x.2.demand).sum) :
    grantOf s.frameStruct s.participants n v =
      v.cfg.floor * s.frameStruct.a +
        periodRemainder s.frameStruct s.participants * v.demand / (s.participants.map fun x => x.2.demand).sum +
        if (s.participants.filter fun x => goesBefore (periodRemainder s.frameStruct s.participants)
            (s.participants.map fun x => x.2.demand).sum x (n, v)).length <
          periodRemainder s.frameStruct s.participants - (s.participants.map fun x =>
            periodRemainder s.frameStruct s.participants * x.2.demand / (s.participants.map fun x => x.2.demand).sum).sum
        then 1 else 0 := by
  have hextra : grantOf s.frameStruct s.participants n v = v.cfg.floor * s.frameStruct.a +
      extraShare (periodRemainder s.frameStruct s.participants) (s.participants.map lineOf) (lineOf (n, v)) := rfl
  rw [hextra, extraShare, totalDemand_participants, Nat.add_assoc]
  dsimp only
  rw [if_neg h.ne', sum_firstShare, rank_eq]
  rfl

/-- The first half of O60: the division itself. -/
theorem allocatePeriod_divides (s : State)
    (hfit : (s.participants.map fun x => x.2.cfg.floor * s.frameStruct.a).sum +
      entitlementReserve s.frameStruct.a s.participants ≤ s.frameStruct.periodSlots) :
    (0 < (s.participants.map fun x => x.2.demand).sum →
      ((allocatePeriod s).participants.map fun x => x.2.alloc.grant).sum +
        entitlementReserve s.frameStruct.a s.participants = s.frameStruct.periodSlots) ∧
    ((s.participants.map fun x => x.2.demand).sum = 0 →
      ((allocatePeriod s).participants.map fun x => x.2.alloc.grant).sum =
        (s.participants.map fun x => x.2.cfg.floor * s.frameStruct.a).sum) := by
  rw [sum_grants, ← totalDemand_participants]
  refine ⟨fun hD => ?_, fun hD => ?_⟩
  · rw [sum_extraShare (nodup_services s) hD, periodRemainder]
    omega
  · have hzero : (s.participants.map lineOf).map
        (extraShare (periodRemainder s.frameStruct s.participants) (s.participants.map lineOf)) =
        (s.participants.map lineOf).map fun _ => 0 :=
      List.map_congr_left fun x _ => extraShare_of_no_demand hD _ x
    rw [hzero, List.map_const', List.sum_replicate, smul_zero, Nat.add_zero]

end Sys2Proof.Proofs
end


section
/-! PROOF. Which frame starts divide, and with what (R98, R100, R103). -/

namespace Sys2Proof.Proofs
open Sys2Proof.Machine

variable {s t u : State} {n m : Svc} {v w : Service}

/-! ## What the division reads -/

/-- A service with nothing but what the Allocator reads and writes. -/
def bare (v : Service) : Service := { Service.created v.cfg with activity := v.activity, alloc := v.alloc }

/-- Two states that the Allocator does not tell apart. -/
structure SameAlloc (s t : State) : Prop where
  frame : t.frameStruct = s.frameStruct
  entries : ∀ n, (t.svc n).map bare = (s.svc n).map bare

/-- Every service's allocation context stands. -/
def KeepsAlloc (s t : State) : Prop := ∀ n, (t.svc n).map Service.alloc = (s.svc n).map Service.alloc

theorem SameAlloc.refl (s : State) : SameAlloc s s := ⟨rfl, fun _ => rfl⟩

theorem SameAlloc.symm (h : SameAlloc s t) : SameAlloc t s := ⟨h.frame.symm, fun n => (h.entries n).symm⟩

theorem SameAlloc.trans (h : SameAlloc s t) (k : SameAlloc t u) : SameAlloc s u :=
  ⟨k.frame.trans h.frame, fun n => (k.entries n).trans (h.entries n)⟩

theorem KeepsAlloc.refl (s : State) : KeepsAlloc s s := fun _ => rfl

theorem KeepsAlloc.trans (h : KeepsAlloc s t) (k : KeepsAlloc t u) : KeepsAlloc s u := fun n => (k n).trans (h n)

theorem SameAlloc.keepsAlloc (h : SameAlloc s t) : KeepsAlloc s t := fun n => by
  have hentry := congrArg (Option.map Service.alloc) (h.entries n)
  rw [Option.map_map, Option.map_map] at hentry
  exact hentry

theorem SameAlloc.of_svc (hframe : t.frameStruct = s.frameStruct) (h : t.services = s.services) : SameAlloc s t :=
  ⟨hframe, fun n => by rw [svc_congr h]⟩

theorem SameAlloc.putSvc (hframe : u.frameStruct = s.frameStruct) (hs : ∀ m, u.svc m = s.svc m) (hv : s.svc n = some v)
    (hw : bare w = bare v) : SameAlloc s (u.putSvc n (some w)) := by
  refine ⟨hframe, fun m => ?_⟩
  rw [State.svc_putSvc]
  split
  · next h => rw [h, hv, Option.map_some, Option.map_some, hw]
  · rw [hs]

theorem KeepsAlloc.putSvc (hs : ∀ m, u.svc m = s.svc m) (hv : s.svc n = some v) (hw : w.alloc = v.alloc) :
    KeepsAlloc s (u.putSvc n (some w)) := by
  intro m
  rw [State.svc_putSvc]
  split
  · next h => rw [h, hv, Option.map_some, Option.map_some, hw]
  · rw [hs]

theorem KeepsAlloc.of_services (h : t.services = s.services) : KeepsAlloc s t := fun n => by rw [svc_congr h]

/-- The participants, as far as the Allocator reads them. -/
def bareOf (x : Svc × Service) : Svc × Service := (x.1, bare x.2)

theorem SameAlloc.participants (h : SameAlloc s t) : t.participants.map bareOf = s.participants.map bareOf := by
  unfold State.participants
  rw [List.map_filterMap, List.map_filterMap]
  refine List.filterMap_congr fun n _ => ?_
  have hentry := h.entries n
  cases hs : s.svc n with
  | none =>
    cases ht : t.svc n with
    | none => rfl
    | some w => rw [hs, ht] at hentry; cases hentry
  | some v =>
    cases ht : t.svc n with
    | none => rw [hs, ht] at hentry; cases hentry
    | some w =>
      rw [hs, ht] at hentry
      have hbare : bare w = bare v := Option.some.inj hentry
      have hpart : w.participant = v.participant := (congrArg Service.participant hbare :)
      dsimp only
      rw [hpart]
      split
      · exact congrArg (fun x => some (n, x)) hbare
      · rfl

theorem grantOf_bare (m : Mux) (ps : List (Svc × Service)) (n : Svc) (v : Service) :
    grantOf m (ps.map bareOf) n (bare v) = grantOf m ps n v := by
  simp only [grantOf, periodRemainder, entitlementReserve, List.map_map]
  rfl

theorem SameAlloc.grantOf_eq (h : SameAlloc s t) (hv : bare w = bare v) :
    grantOf t.frameStruct t.participants n w = grantOf s.frameStruct s.participants n v := by
  rw [← grantOf_bare, ← grantOf_bare s.frameStruct, h.participants, h.frame, hv]

theorem SameAlloc.allocatePeriod (h : SameAlloc s t) : SameAlloc (allocatePeriod s) (allocatePeriod t) := by
  refine ⟨by rw [allocatePeriod_rest t, allocatePeriod_rest s]; exact h.frame, fun n => ?_⟩
  rw [allocatePeriod_svc, allocatePeriod_svc]
  have hentry := h.entries n
  cases hs : s.svc n with
  | none =>
    cases ht : t.svc n with
    | none => rfl
    | some w => rw [hs, ht] at hentry; cases hentry
  | some v =>
    cases ht : t.svc n with
    | none => rw [hs, ht] at hentry; cases hentry
    | some w =>
      rw [hs, ht] at hentry
      have hbare : bare w = bare v := Option.some.inj hentry
      have hpart : w.participant = v.participant := (congrArg Service.participant hbare :)
      simp only [Option.map_some]
      rw [hpart, h.grantOf_eq hbare]
      split
      · exact congrArg (fun x : Service => some (x.granted (grantOf s.frameStruct s.participants n v))) hbare
      · exact hentry

/-! ## Outstanding work -/

theorem KeepsAlloc.raiseFault (n : Svc) (code : FaultCode) (s : State) : KeepsAlloc s (raiseFault n code s) := by
  cases hv : s.svc n with
  | none => rw [raiseFault_none n code s hv]; exact .refl s
  | some v =>
    rw [raiseFault_some n code s v hv]
    exact .putSvc (fun _ => rfl) hv rfl

theorem KeepsAlloc.silenceExpiry (n : Svc) (s : State) : KeepsAlloc s (silenceExpiry n s) := by
  cases hv : s.svc n with
  | none => rw [silenceExpiry_none hv]; exact .refl s
  | some v =>
    cases hp : v.picture with
    | none =>
      rw [silenceExpiry_of_closed hv hp]
      exact .putSvc (fun _ => rfl) hv rfl
    | some p =>
      rw [silenceExpiry_of_open hv (state_of_picture hp)]
      exact .putSvc (fun _ => rfl) hv rfl

/-- Work other than a period start leaves every allocation context as it is. -/
theorem takeWork_keepsAlloc {x : FrameWork} (hx : x ≠ .allocate) (s : State) : KeepsAlloc s (takeWork x s) := by
  cases x with
  | allocate => exact absurd rfl hx
  | silence n => exact .silenceExpiry n s
  | period n =>
    change KeepsAlloc s (periodExpiry n s)
    cases hv : s.svc n with
    | none => rw [periodExpiry, hv]; exact .refl s
    | some v =>
      by_cases hready : v.ready = true
      · rw [periodExpiry_of_ready hv hready, changeover_eq hv]
        exact .putSvc (fun m => askedIf_svc ..) hv rfl
      · rw [periodExpiry_of_not_ready hv hready]
        split
        · exact .putSvc (fun _ => rfl) hv rfl
        · exact .putSvc (fun _ => rfl) hv rfl
  | window n =>
    change KeepsAlloc s (windowExpiry n s)
    cases hv : s.svc n with
    | none => rw [windowExpiry, hv]; exact .refl s
    | some v =>
      by_cases hready : slotReady v.cfg.nmin v.keys.current = true
      · rw [windowExpiry_of_ready hv hready]
        exact .putSvc (fun m => askedIf_svc ..) hv rfl
      · rw [windowExpiry_of_not_ready hv hready]
        exact .putSvc (fun _ => rfl) hv rfl
  | countdown n =>
    change KeepsAlloc s (countdownExpiry n s)
    cases hv : s.svc n with
    | none =>
      refine .of_services ?_
      rw [countdownExpiry, modSvc_none hv, submitEntitlement]
      split <;> rfl
    | some v =>
      rw [countdownExpiry_eq hv]
      exact .putSvc (fun _ => rfl) hv rfl
  | deferral n =>
    change KeepsAlloc s (deferralExpiry n s)
    cases hv : s.svc n with
    | none =>
      rw [deferralExpiry, State.modKeys, modSvc_none hv]
      exact .raiseFault n _ s
    | some v =>
      rw [deferralExpiry_eq hv]
      exact .putSvc (fun _ => rfl) hv rfl

theorem foldl_takeWork_keepsAlloc {l : List FrameWork} (hl : FrameWork.allocate ∉ l) (s : State) :
    KeepsAlloc s (l.foldl (fun t x => takeWork x t) s) := by
  induction l generalizing s with
  | nil => exact .refl s
  | cons x l ih =>
    obtain ⟨hx, hl⟩ := not_or.mp (List.mem_cons.not.mp hl)
    exact (takeWork_keepsAlloc (Ne.symm hx) s).trans (ih hl _)

/-- A service after its silence expiry, as far as the Allocator reads it (R37). -/
def stilled (v : Service) : Service := if v.activity = .running then { v with activity := .stalled } else v

theorem bare_stalled (v : Service) (frame : Word) (q : QueueDesc) (st : IngestState) :
    bare (stalled v frame q st) = bare (stilled v) := by
  unfold stalled stilled
  by_cases h : v.activity = .running
  · rw [if_pos h, if_pos h]
    rfl
  · rw [if_neg h, if_neg h]
    rfl

theorem bare_stilled_congr (h : bare w = bare v) : bare (stilled w) = bare (stilled v) := by
  have hstilled (x : Service) : bare (stilled x) = stilled (bare x) := by
    unfold stilled
    by_cases hx : x.activity = .running
    · rw [if_pos hx, if_pos (show (bare x).activity = .running from hx)]
      rfl
    · rw [if_neg hx, if_neg (show ¬ (bare x).activity = .running from hx)]
  rw [hstilled, hstilled, h]

theorem silenceExpiry_bare (n : Svc) (s : State) :
    (silenceExpiry n s).frameStruct = s.frameStruct ∧ ∀ m, ((silenceExpiry n s).svc m).map bare =
      (s.svc m).map fun v => bare (if m = n then stilled v else v) := by
  have hput (t : State) (v w : Service) (hs : t.services = s.services) (hframe : t.frameStruct = s.frameStruct)
      (hv : s.svc n = some v) (hw : bare w = bare (stilled v)) :
      (t.putSvc n (some w)).frameStruct = s.frameStruct ∧ ∀ m, ((t.putSvc n (some w)).svc m).map bare =
        (s.svc m).map fun v => bare (if m = n then stilled v else v) := by
    refine ⟨hframe, fun m => ?_⟩
    rw [State.svc_putSvc, svc_congr hs]
    by_cases hm : m = n
    · simp only [hm, if_true, hv, Option.map_some, hw]
    · simp only [hm, if_false]
  cases hv : s.svc n with
  | none =>
    rw [silenceExpiry_none hv]
    refine ⟨rfl, fun m => ?_⟩
    by_cases hm : m = n
    · rw [hm, hv]; rfl
    · simp only [hm, if_false]
  | some v =>
    cases hp : v.picture with
    | none =>
      rw [silenceExpiry_of_closed hv hp]
      exact hput _ v _ rfl rfl hv (bare_stalled ..)
    | some p =>
      rw [silenceExpiry_of_open hv (state_of_picture hp)]
      exact hput _ v _ rfl rfl hv (bare_stalled ..)

theorem stilled_stilled (v : Service) : stilled (stilled v) = stilled v := by
  by_cases h : v.activity = .running <;> simp [stilled, h]

theorem map_bare_stilled {p : Prop} [Decidable p] {o o' : Option Service} (h : o.map bare = o'.map bare) :
    (o.map fun v => bare (if p then stilled v else v)) = o'.map fun v => bare (if p then stilled v else v) := by
  cases o with
  | none =>
    cases o' with
    | none => rfl
    | some v => cases h
  | some w =>
    cases o' with
    | none => cases h
    | some v =>
      have hbare : bare w = bare v := Option.some.inj h
      simp only [Option.map_some]
      split
      · rw [bare_stilled_congr hbare]
      · rw [hbare]

/-- Silence expiries one after another: each stalls its service. -/
theorem foldl_silence_bare (l : List Svc) (s : State) :
    ((l.map FrameWork.silence).foldl (fun t x => takeWork x t) s).frameStruct = s.frameStruct ∧
      ∀ m, (((l.map FrameWork.silence).foldl (fun t x => takeWork x t) s).svc m).map bare =
        (s.svc m).map fun v => bare (if m ∈ l then stilled v else v) := by
  induction l generalizing s with
  | nil => exact ⟨rfl, fun m => by simp⟩
  | cons n l ih =>
    obtain ⟨hframe, hentries⟩ := silenceExpiry_bare n s
    obtain ⟨hframe', hentries'⟩ := ih (silenceExpiry n s)
    refine ⟨hframe'.trans hframe, fun m => (hentries' m).trans ?_⟩
    have hone : ((silenceExpiry n s).svc m).map bare =
        ((s.svc m).map fun v => if m = n then stilled v else v).map bare := by
      rw [hentries m, Option.map_map]
      rfl
    rw [map_bare_stilled hone, Option.map_map]
    refine congrArg (fun f => (s.svc m).map f) (funext fun v => ?_)
    by_cases hm : m = n
    · by_cases hl : m ∈ l <;> simp [hm, stilled_stilled]
    · simp [hm]

/-! ## The ticks of a frame start -/

/-- The silence expiry that a frame start finds for a service. -/
def silenceFound (s : State) (n : Svc) : List FrameWork :=
  match s.svc n with
  | some v => silenceDue n v
  | none => []

theorem bare_silenced (v : Service) : bare (silenced v) = bare v := by
  rw [silenced_eq]
  rfl

theorem silenceTick_sameAlloc (n : Svc) (s : State) :
    SameAlloc s (silenceTick n s) ∧ (silenceTick n s).frameDue = s.frameDue ++ silenceFound s n := by
  unfold silenceFound
  cases hv : s.svc n with
  | none =>
    rw [silenceTick_none hv]
    exact ⟨.refl s, (List.append_nil _).symm⟩
  | some v =>
    rw [silenceTick_eq hv]
    exact ⟨.putSvc rfl (fun _ => rfl) hv (bare_silenced v), rfl⟩

theorem silenceTicks_sameAlloc {l : List Svc} (hl : l.Nodup) (s : State) :
    SameAlloc s (silenceTicks l s) ∧ (silenceTicks l s).frameDue = s.frameDue ++ l.flatMap (silenceFound s) := by
  induction l generalizing s with
  | nil => exact ⟨.refl s, (List.append_nil _).symm⟩
  | cons n l ih =>
    obtain ⟨hn, hl⟩ := List.nodup_cons.mp hl
    obtain ⟨hone, hdue⟩ := silenceTick_sameAlloc n s
    obtain ⟨hall, hdue'⟩ := ih hl (silenceTick n s)
    have hfound : l.flatMap (silenceFound (silenceTick n s)) = l.flatMap (silenceFound s) := by
      refine List.flatMap_congr fun m hm => ?_
      have hne : m ≠ n := fun h => hn (h ▸ hm)
      have hsvc : (silenceTick n s).svc m = s.svc m := congrArg ServiceView.entry ((silenceTick_onlyAt n s).views m hne)
      rw [silenceFound, silenceFound, hsvc]
    refine ⟨hone.trans hall, ?_⟩
    rw [List.flatMap_cons, ← List.append_assoc, ← hdue, ← hfound]
    exact hdue'

theorem askedIf_frame {due : Prop} [Decidable due] (n : Svc) (ph : Phase) :
    (s.askedIf due n ph).frameDue = s.frameDue ∧ (s.askedIf due n ph).frameStruct = s.frameStruct := by
  unfold State.askedIf
  split <;> exact ⟨rfl, rfl⟩

theorem countdownDue_allocate (n : Svc) (v : Service) : FrameWork.allocate ∉ countdownDue n v :=
  fun h => nomatch countdownDue_service n v _ h

/-- Key work is never a period start. -/
theorem keyTick_sameAlloc (n : Svc) (s : State) :
    SameAlloc s (keyTick n s) ∧ ∃ l, (keyTick n s).frameDue = s.frameDue ++ l ∧ FrameWork.allocate ∉ l := by
  have hcount (v : Service) : FrameWork.allocate ∉ countdownDue n v := countdownDue_allocate n v
  cases hv : s.svc n with
  | none =>
    rw [keyTick_none hv]
    exact ⟨.refl s, [], (List.append_nil _).symm, List.not_mem_nil⟩
  | some v =>
    by_cases hkeyed : keyed v
    · by_cases hsteps : steps v
      · rw [keyTick_of_steps hv hkeyed hsteps]
        set l := if (v.keys.timer.step v.cfg.p).count = 0 then [timerExpiry n v] else [] with hl
        have hnot : FrameWork.allocate ∉ l := by
          intro h
          rw [hl] at h
          split at h
          · have hservice := timerExpiry_service n v
            rw [← List.mem_singleton.mp h] at hservice
            cases hservice
          · cases h
        obtain ⟨hdue, hframe⟩ := askedIf_frame (s := noted s (countdownDue n v)) (due := asksAtTick (counted v)) n
          v.keys.wantedPhase
        refine ⟨.putSvc hframe (fun m => askedIf_svc ..) hv rfl, countdownDue n v ++ l, ?_, ?_⟩
        · rw [← List.append_assoc]
          exact congrArg (· ++ l) hdue
        · exact List.mem_append.not.mpr (not_or.mpr ⟨hcount v, hnot⟩)
      · by_cases hwaits : waits v
        · by_cases hready : v.ready = true
          · rw [keyTick_of_ready hv hkeyed hwaits hready]
            obtain ⟨hdue, hframe⟩ := askedIf_frame (s := served (noted s (countdownDue n v)) n)
              (due := v.timed = true ∧ v.cfg.p * v.cfg.c ≤ v.cfg.lead) n v.keys.phase
            exact ⟨.putSvc hframe (fun m => askedIf_svc ..) hv rfl, countdownDue n v, hdue, hcount v⟩
          · rw [keyTick_of_not_ready hv hkeyed hwaits hready]
            refine ⟨.putSvc rfl (fun _ => rfl) hv rfl, countdownDue n v ++ deferralDue n v, ?_, ?_⟩
            · exact List.append_assoc ..
            · exact List.mem_append.not.mpr (not_or.mpr ⟨hcount v, fun h => nomatch deferralDue_service n v _ h⟩)
        · rw [keyTick_of_idle hv hkeyed hsteps hwaits]
          exact ⟨.putSvc rfl (fun _ => rfl) hv rfl, countdownDue n v, rfl, hcount v⟩
    · rw [keyTick_of_not_keyed hv hkeyed]
      exact ⟨.refl s, [], (List.append_nil _).symm, List.not_mem_nil⟩

theorem keyTicks_sameAlloc (l : List Svc) (s : State) :
    SameAlloc s (keyTicks l s) ∧ ∃ due, (keyTicks l s).frameDue = s.frameDue ++ due ∧ FrameWork.allocate ∉ due := by
  induction l generalizing s with
  | nil => exact ⟨.refl s, [], (List.append_nil _).symm, List.not_mem_nil⟩
  | cons n l ih =>
    obtain ⟨hone, due, hdue, hnot⟩ := keyTick_sameAlloc n s
    obtain ⟨hall, due', hdue', hnot'⟩ := ih (keyTick n s)
    refine ⟨hone.trans hall, due ++ due', ?_, List.mem_append.not.mpr (not_or.mpr ⟨hnot, hnot'⟩)⟩
    rw [← List.append_assoc, ← hdue]
    exact hdue'

/-! ## A frame start, as the Allocator sees it -/

/-- The services whose silence expiry goes before the period start (R103). -/
def stalledFirst (early order : List Svc) (s : State) : List Svc :=
  ((workOrder order).filter fun n => early.contains n).filter fun n => !(silenceFound s n).isEmpty

theorem silenceFound_eq (s : State) (n : Svc) :
    silenceFound s n = if (silenceFound s n).isEmpty then [] else [.silence n] := by
  unfold silenceFound
  cases s.svc n with
  | none => rfl
  | some v =>
    dsimp only
    unfold silenceDue
    split <;> rfl

theorem flatMap_silenceFound (l : List Svc) (s : State) :
    l.flatMap (silenceFound s) = (l.filter fun n => !(silenceFound s n).isEmpty).map FrameWork.silence := by
  induction l with
  | nil => rfl
  | cons n l ih =>
    rw [List.flatMap_cons, List.filter_cons, ih, silenceFound_eq]
    cases (silenceFound s n).isEmpty <;> rfl

theorem allocate_not_mem_silences (l : List Svc) : FrameWork.allocate ∉ l.map FrameWork.silence := by
  intro h
  obtain ⟨n, -, hn⟩ := List.mem_map.mp h
  cases hn

/-- What a frame start leaves outstanding, and the contexts it leaves, by whether it begins a period. -/
theorem startFrame_alloc (early order : List Svc) (hnil : s.frameDue = []) :
    ∃ due, FrameWork.allocate ∉ due ∧
      ((¬ isPeriodStart (beginFrame s) = true ∧ SameAlloc (beginFrame s) (startFrame early order s) ∧
          (startFrame early order s).frameDue = (stalledFirst early order s).map FrameWork.silence ++ due) ∨
        (isPeriodStart (beginFrame s) = true ∧ stalledFirst early order s = [] ∧
          SameAlloc (allocatePeriod (beginFrame s)) (startFrame early order s) ∧
          (startFrame early order s).frameDue = due) ∨
        (isPeriodStart (beginFrame s) = true ∧ stalledFirst early order s ≠ [] ∧
          SameAlloc (beginFrame s) (startFrame early order s) ∧
          (startFrame early order s).frameDue =
            (stalledFirst early order s).map FrameWork.silence ++ .allocate :: due)) := by
  set l1 := (workOrder order).filter fun n => early.contains n with hl1
  set l2 := (workOrder order).filter fun n => !early.contains n with hl2
  set s1 := silenceTicks l1 (beginFrame s) with hs1
  obtain ⟨hsame1, hdue1⟩ := silenceTicks_sameAlloc ((nodup_workOrder order).filter _ : l1.Nodup) (beginFrame s)
  obtain ⟨hsame2, hdue2⟩ := silenceTicks_sameAlloc ((nodup_workOrder order).filter _ : l2.Nodup) (periodStart s1)
  obtain ⟨hsame3, due, hdue3, hnot⟩ := keyTicks_sameAlloc (workOrder order) (silenceTicks l2 (periodStart s1))
  have hfound : s1.frameDue = (stalledFirst early order s).map FrameWork.silence := by
    rw [hdue1, show (beginFrame s).frameDue = s.frameDue from rfl, hnil, List.nil_append]
    exact flatMap_silenceFound l1 s
  have hsame : SameAlloc (periodStart s1) (startFrame early order s) := hsame2.trans hsame3
  have hdue : (startFrame early order s).frameDue =
      (periodStart s1).frameDue ++ (l2.flatMap (silenceFound (periodStart s1)) ++ due) := by
    rw [← List.append_assoc, ← hdue2]
    exact hdue3
  have hstarts : isPeriodStart s1 = isPeriodStart (beginFrame s) := by
    have hrest : sameBesidesTicks (beginFrame s) s1 := ticks_rest silence_ticksAlone l1 (beginFrame s)
    rw [hrest]
    rfl
  refine ⟨l2.flatMap (silenceFound (periodStart s1)) ++ due, ?_, ?_⟩
  · rw [flatMap_silenceFound]
    exact List.mem_append.not.mpr (not_or.mpr ⟨allocate_not_mem_silences _, hnot⟩)
  by_cases hperiod : isPeriodStart (beginFrame s) = true
  · rw [periodStart, hstarts, if_pos hperiod] at hsame hdue ⊢
    by_cases hfirst : stalledFirst early order s = []
    · have hempty : s1.frameDue = [] := by rw [hfound, hfirst]; rfl
      rw [if_pos hempty] at hsame hdue ⊢
      refine .inr (.inl ⟨hperiod, hfirst, hsame1.allocatePeriod.trans hsame, ?_⟩)
      rw [hdue, allocatePeriod_rest, hempty, List.nil_append]
    · have hne : s1.frameDue ≠ [] := by rw [hfound]; simpa using hfirst
      rw [if_neg hne] at hsame hdue ⊢
      have hnoted : SameAlloc s1 (noteWork .allocate s1) := ⟨rfl, fun _ => rfl⟩
      refine .inr (.inr ⟨hperiod, hfirst, hsame1.trans (hnoted.trans hsame), ?_⟩)
      rw [hdue, noteWork, hfound, List.append_assoc]
      rfl
  · rw [periodStart, hstarts, if_neg hperiod] at hsame hdue ⊢
    refine .inl ⟨hperiod, hsame1.trans hsame, ?_⟩
    rw [hdue, hfound]

/-- The part before its frame start, with the structure of the new frame and the services stalled whose expiry goes before
the division (R98, R103). -/
def beforeDivision (early : List Svc) (s : State) : State :=
  { s with
    frameStruct := if s.adoptionPending then s.inForce else s.frameStruct
    services := Vector.ofFn fun n => (s.svc n).map fun v =>
      if n ∈ early ∧ v.activity = .running ∧ v.ingest.expired = false ∧ v.cfg.z ≤ v.ingest.silence + 1 then
        { v with activity := .stalled }
      else v }

theorem beforeDivision_svc (early : List Svc) (s : State) (n : Svc) :
    (beforeDivision early s).svc n = (s.svc n).map fun v =>
      if n ∈ early ∧ v.activity = .running ∧ v.ingest.expired = false ∧ v.cfg.z ≤ v.ingest.silence + 1 then
        { v with activity := .stalled }
      else v := by
  simp [beforeDivision, State.svc]

theorem mem_stalledFirst (early order : List Svc) (hv : s.svc n = some v) :
    n ∈ stalledFirst early order s ↔ n ∈ early ∧ v.silenceEnds := by
  have hfound : (!(silenceFound s n).isEmpty) = true ↔ v.silenceEnds := by
    rw [silenceFound, hv]
    dsimp only
    rw [silenceDue, Service.silenceEnds, ← and_assoc]
    split
    · next h => exact iff_of_true rfl h
    · next h => exact iff_of_false Bool.false_ne_true h
  rw [stalledFirst, List.mem_filter, List.mem_filter, hfound]
  simp [mem_workOrder]

/-- The expiries that go first bring the part to where the division finds it. -/
theorem sameAlloc_beforeDivision (early order : List Svc) (hsame : SameAlloc (beginFrame s) u) :
    SameAlloc (beforeDivision early s)
      (((stalledFirst early order s).map FrameWork.silence).foldl (fun t x => takeWork x t) u) := by
  obtain ⟨hframe, hentries⟩ := foldl_silence_bare (stalledFirst early order s) u
  refine ⟨hframe.trans hsame.frame, fun m => (hentries m).trans ?_⟩
  rw [map_bare_stilled (hsame.entries m), beforeDivision_svc, show (beginFrame s).svc m = s.svc m from rfl]
  cases hv : s.svc m with
  | none => rfl
  | some v =>
    have hmem := mem_stalledFirst early order hv
    rw [Option.map_some, Option.map_some, Option.map_some]
    refine congrArg (fun x => some (bare x)) ?_
    by_cases hm : m ∈ stalledFirst early order s
    · obtain ⟨hearly, -, hmark, hends⟩ := hmem.mp hm
      rw [if_pos hm, stilled]
      by_cases hrun : v.activity = .running
      · rw [if_pos hrun, if_pos ⟨hearly, hrun, hmark, hends⟩]
      · rw [if_neg hrun, if_neg fun h => hrun h.2.1]
    · rw [if_neg hm, if_neg fun ⟨hearly, hrun, hmark, hends⟩ => hm (hmem.mpr ⟨hearly, .inl hrun, hmark, hends⟩)]

theorem stalledFirst_eq_nil (early order : List Svc) (h : ∀ m, ∀ y ∈ s.svc m, ¬ (m ∈ early ∧ y.silenceEnds)) :
    stalledFirst early order s = [] := by
  refine List.eq_nil_iff_forall_not_mem.mpr fun n hn => ?_
  cases hv : s.svc n with
  | none =>
    have hfound := (List.mem_filter.mp hn).2
    rw [silenceFound, hv] at hfound
    exact Bool.false_ne_true hfound
  | some v => exact h n v hv ((mem_stalledFirst early order hv).mp hn)

theorem KeepsAlloc.entry (h : KeepsAlloc s t) (hv : s.svc n = some v) : ∃ w, t.svc n = some w ∧ w.alloc = v.alloc := by
  have hentry := h n
  rw [hv] at hentry
  exact Option.map_eq_some_iff.mp hentry

theorem isPeriodStart_beginFrame (early order : List Svc) (s : State) :
    isPeriodStart (beginFrame s) = true ↔
      (startFrame early order s).frameNumber.toNat % (startFrame early order s).frameStruct.a = 0 := by
  rw [sameBesidesTicks_startFrame early order s]
  exact beq_iff_eq

/-- Outstanding work without a period start leaves every allocation context as it is. -/
theorem settle_keepsAlloc (h : FrameWork.allocate ∉ s.frameDue) : KeepsAlloc s (settle s) :=
  (KeepsAlloc.of_services rfl : KeepsAlloc s { s with frameDue := [] }).trans (foldl_takeWork_keepsAlloc h _)

/-- What the settled contexts come from, and whether they stood at the frame start already. -/
theorem startFrame_settled (early order : List Svc) (hnil : s.frameDue = []) :
    let t := startFrame early order s
    (¬ isPeriodStart (beginFrame s) = true → KeepsAlloc s (settle t)) ∧
      (isPeriodStart (beginFrame s) = true → KeepsAlloc (allocatePeriod (beforeDivision early s)) (settle t)) ∧
      (stalledFirst early order s = [] → KeepsAlloc t (settle t)) := by
  intro t
  obtain ⟨due, hnot, hcases⟩ := startFrame_alloc early order hnil
  have hbegin : KeepsAlloc s (beginFrame s) := .of_services rfl
  rcases hcases with ⟨hperiod, hsame, hdue⟩ | ⟨hperiod, hfirst, hsame, hdue⟩ | ⟨hperiod, hfirst, hsame, hdue⟩
  · have hsettle : KeepsAlloc t (settle t) := settle_keepsAlloc (by
      rw [hdue]
      exact List.mem_append.not.mpr (not_or.mpr ⟨allocate_not_mem_silences _, hnot⟩))
    exact ⟨fun _ => hbegin.trans (hsame.keepsAlloc.trans hsettle), fun h => absurd h hperiod, fun _ => hsettle⟩
  · have hsettle : KeepsAlloc t (settle t) := settle_keepsAlloc (by rw [hdue]; exact hnot)
    have hbefore := sameAlloc_beforeDivision early order (SameAlloc.refl (beginFrame s))
    rw [hfirst] at hbefore
    exact ⟨fun h => absurd hperiod h, fun _ => (hbefore.allocatePeriod.trans hsame).keepsAlloc.trans hsettle,
      fun _ => hsettle⟩
  · have hrest : SameAlloc (beginFrame s) { t with frameDue := [] } := hsame.trans ⟨rfl, fun _ => rfl⟩
    have hbefore := sameAlloc_beforeDivision early order hrest
    refine ⟨fun h => absurd hperiod h, fun _ => ?_, fun h => absurd h hfirst⟩
    rw [settle, hdue, List.foldl_append, List.foldl_cons]
    exact hbefore.allocatePeriod.keepsAlloc.trans (foldl_takeWork_keepsAlloc hnot _)

/-- Settles O60: the division by largest remainders, and the frame starts that make it. -/
theorem allocationDividesThePeriod : Obligations.AllocationDividesThePeriod := by
  refine ⟨fun s => ?divides, fun s t early order hrest hslot hexec => ?starts⟩
  case divides =>
    intro m ps reserve floors wants demand remainder leftover before hfit grants
    obtain ⟨hall, hnone⟩ := allocatePeriod_divides s hfit
    refine ⟨hall, hnone, fun n v hv hact => ?_⟩
    have hsvc : (allocatePeriod s).svc n = some (v.granted (grantOf s.frameStruct s.participants n v)) := by
      rw [allocatePeriod_svc, hv, Option.map_some, if_pos ((participant_iff v).mpr hact)]
    exact ⟨_, hsvc, fun h => grantOf_of_no_demand h,
      fun h => grantOf_of_demand (s := s) (n := n) (v := v) h, rfl, rfl, rfl⟩
  case starts =>
    rw [exec_frameStart hrest hslot] at hexec
    obtain rfl := Host.Outcome.next.inj hexec
    intro first divided starts n v hv
    obtain ⟨hstands, hdivides, hfirst⟩ := startFrame_settled early order hrest.2
    have hstarts := isPeriodStart_beginFrame early order s
    have hbefore : ∃ y, (beforeDivision early s).svc n = some y := by rw [beforeDivision_svc, hv]; exact ⟨_, rfl⟩
    obtain ⟨y, hy⟩ := hbefore
    have hdivided : ∃ u, divided.svc n = some u := by
      rw [show divided = allocatePeriod (beforeDivision early s) from rfl, allocatePeriod_svc, hy]
      exact ⟨_, rfl⟩
    obtain ⟨u, hu⟩ := hdivided
    obtain ⟨w, hw, -⟩ := silence_at_frameStart early order hv hrest.2
    by_cases hperiod : isPeriodStart (beginFrame s) = true
    · obtain ⟨x, hx, hxu⟩ := (hdivides hperiod).entry hu
      refine ⟨w, x, u, hw, hx, hu, ?_, fun h => ?_⟩
      · rw [if_pos (hstarts.mp hperiod), hxu]
      · obtain ⟨x', hx', hxw⟩ := (hfirst (stalledFirst_eq_nil early order h)).entry hw
        rw [Option.some.inj (hx.symm.trans hx'), hxw]
    · obtain ⟨x, hx, hxv⟩ := (hstands hperiod).entry hv
      refine ⟨w, x, u, hw, hx, hu, ?_, fun h => ?_⟩
      · rw [if_neg fun h => hperiod (hstarts.mpr h), hxv]
      · obtain ⟨x', hx', hxw⟩ := (hfirst (stalledFirst_eq_nil early order h)).entry hw
        rw [Option.some.inj (hx.symm.trans hx'), hxw]

end Sys2Proof.Proofs
end


section
/-! PROOF. The Packer's take of a record and its judgement (R24, R26, R27, R31, R34, R39, R86, R89), and the steps of a
withdrawal (R86 to R88). -/

namespace Sys2Proof.Proofs
open Sys2Proof.Machine

variable {s t : State} {n : Svc} {v : Service} {w : PackerWork} {r : Record}

/-! ## Rows at rest -/

/-- The row that takes a record of the kind of `r`. -/
def recordRow (r : Record) (k : Nat) : Instr :=
  match r with
  | .picHead .. => .picHead k
  | .blocks .. => .blocks k
  | .picTail .. => .picTail k

/-- The state after the record `r` has left the ingest queue, before it is judged. -/
def taking (s : State) (r : Record) (rest : List Record) (draining : Bool) : State :=
  { s with ingestQueue := rest, packer := some { record := r, phase := .held draining } }

theorem takeAndWork_eq {kind : Record → Bool} {rest : List Record} (k : Nat) (hpacker : s.packer = none)
    (hqueue : s.ingestQueue = r :: rest) (hkind : kind r = true) :
    takeAndWork kind k s =
      runStages k (startRecord r (s.isDraining r.service) (taking s r rest (s.isDraining r.service))) := by
  rw [takeAndWork, hpacker]
  dsimp only
  rw [takeRecord, hpacker, hqueue]
  dsimp only
  rw [if_pos hkind]
  rfl

/-- The row of a record at the head of the queue: the Packer takes it, judges it and works on it. -/
theorem exec_recordRow {rest : List Record} (hrest : s.atRest) (k : Nat) (hpacker : s.packer = none)
    (hqueue : s.ingestQueue = r :: rest) :
    exec (recordRow r k) s =
      .next (runStages k (startRecord r (s.isDraining r.service) (taking s r rest (s.isDraining r.service)))) := by
  have hrow (kind : Record → Bool) (hkind : kind r = true) :
      (.next (operate (takeAndWork kind k) s) : Host.Outcome State Fault Refusal) =
        .next (runStages k (startRecord r (s.isDraining r.service) (taking s r rest (s.isDraining r.service)))) := by
    rw [operate_of_rest _ _ hrest.1 hrest.2, takeAndWork_eq k hpacker hqueue hkind]
  cases r with
  | picHead => exact hrow Record.isHead rfl
  | blocks => exact hrow Record.isBlocks rfl
  | picTail => exact hrow Record.isTail rfl

theorem setPhase_some (ph : WorkPhase) (h : s.packer = some w) :
    setPhase ph s = { s with packer := some { w with phase := ph } } := by
  rw [setPhase, h]

theorem isDraining_of_svc (hv : s.svc n = some v) : s.isDraining n = (v.activity == .draining) := by
  rw [State.isDraining, hv]

theorem exec_withdraw (hrest : s.atRest) (n : Svc) : exec (.withdraw n) s = .next (withdrawStep n s) := by
  have h : exec (.withdraw n) s = .next (operate (withdrawStep n) s) := rfl
  rw [h, operate_of_rest _ _ hrest.1 hrest.2]

theorem exec_heldRecordResume {draining : Bool} (hrest : s.atRest) (k : Nat)
    (hpacker : s.packer = some { record := r, phase := .held draining }) :
    exec (.heldRecordResume k) s = .next (runStages k (startRecord r draining s)) := by
  have h : exec (.heldRecordResume k) s = .next (operate (resumeAndWork k) s) := rfl
  rw [h, operate_of_rest _ _ hrest.1 hrest.2, resumeAndWork, hpacker]
  dsimp only
  rw [resumeHeld, hpacker]

/-- A held record waits: a stage does nothing. -/
theorem runStages_of_held {draining : Bool} (k : Nat) (h : s.packer = some { record := r, phase := .held draining }) :
    runStages k s = s := by
  have hstage : packerStage s = s := by rw [packerStage, h]
  induction k with
  | zero => rfl
  | succ k ih => rw [runStages, hstage, ih]

/-! ## The start of the work on a record -/

theorem isParticipant_of_svc (hv : s.svc n = some v) (hact : v.activity ≠ .defined) : s.isParticipant n = true := by
  rw [State.isParticipant, hv]
  exact (participant_iff v).mpr hact

theorem isParticipant_of_absent (h : ∀ v ∈ s.svc n, v.activity = .defined) : s.isParticipant n = false := by
  unfold State.isParticipant
  split
  · next v hv => exact participant_of_defined (h v hv)
  · rfl

theorem withdrawing_of_svc (hv : s.svc n = some v) : s.withdrawing n = v.queue.withdrawal.isSome := by
  rw [State.withdrawing, hv]

/-- A record of a service that is no participant is consumed silently (R24). -/
theorem startRecord_of_absent (hpacker : s.packer = some w) (draining : Bool)
    (h : ∀ v ∈ s.svc r.service, v.activity = .defined) : startRecord r draining s = s.recordDone := by
  rw [startRecord, isParticipant_of_absent h, finishRecord_eq hpacker]
  rfl

/-- A record that meets a withdrawal in flight is held (R86). -/
theorem startRecord_of_withdrawing (hv : s.svc r.service = some v) (hact : v.activity ≠ .defined)
    (hw : v.queue.withdrawal.isSome = true) (draining : Bool) :
    startRecord r draining s = setPhase (.held draining) s := by
  rw [startRecord, isParticipant_of_svc hv hact, withdrawing_of_svc hv, hw]
  rfl

theorem startRecord_of_free (hv : s.svc r.service = some v) (hact : v.activity ≠ .defined)
    (hw : v.queue.withdrawal = none) (draining : Bool) :
    startRecord r draining s = judgeRecord r draining (markerTest r.service s) := by
  rw [startRecord, isParticipant_of_svc hv hact, withdrawing_of_svc hv, hw]
  rfl

/-- A record that finds no marker to append is judged at once. -/
theorem startRecord_of_judged (hv : s.svc r.service = some v) (hact : v.activity ≠ .defined)
    (hw : v.queue.withdrawal = none) (hm : v.queue.marker = none ∨ v.ringLength = 2 ^ v.cfg.k - 1) (draining : Bool) :
    startRecord r draining s = judgeRecord r draining s := by
  rw [startRecord_of_free hv hact hw, markerTest_of_not_room hv (hm.imp_right (ringFull_iff v).mpr)]

theorem gapAppended_svc (s : State) (n : Svc) (v : Service) (m : Marker) :
    (s.gapAppended n v m).svc n =
      some { v with queue := { v.queue with marker := none, write := v.onward v.queue.write } } :=
  svc_putSvc_self _ _ _

/-- A record that finds a marker pending and room for it is judged as after the marker's cell has been appended (R89). -/
theorem startRecord_of_room {m : Marker} (hv : s.svc r.service = some v) (hact : v.activity ≠ .defined)
    (hw : v.queue.withdrawal = none) (hm : v.queue.marker = some m) (hroom : v.ringLength ≠ 2 ^ v.cfg.k - 1)
    (draining : Bool) :
    startRecord r draining s = startRecord r draining (s.gapAppended r.service v m) := by
  rw [startRecord_of_free hv hact hw, markerTest_of_room hv hm (fun hfull => hroom ((ringFull_iff v).mp hfull)),
    startRecord_of_judged (gapAppended_svc s r.service v m) hact hw (.inl rfl)]

/-! ## A record judged -/

theorem judgeRecord_eq (hv : s.svc r.service = some v) (draining : Bool) :
    judgeRecord r draining s = match r with
      | .picHead n _ _ stripes bps _ => judgeHead n stripes bps draining v s
      | .blocks n data => judgeBlocks n data v s
      | .picTail n number => judgeTail n number v s := by
  rw [judgeRecord, hv]
  cases r <;> rfl

theorem raiseFault_eq (hv : s.svc n = some v) (code : FaultCode) :
    raiseFault n code s = ({ s with ctlAttn := s.ctlAttn || v.faults.entries.isEmpty } : State).putSvc n
      (some { v with faults := v.faults.raise code s.frameNumber }) := by
  rw [← raiseFault_putSvc, putSvc_self hv]

/-- The state after a fault of a record has been raised for its service `n`, left as `v`, and the work has ended. -/
def refused (s : State) (n : Svc) (v : Service) (code : FaultCode) : State :=
  ({ s.recordDone with ctlAttn := s.ctlAttn || v.faults.entries.isEmpty } : State).putSvc n
    (some { v with faults := v.faults.raise code s.frameNumber })

theorem refuseRecord_eq (hpacker : s.packer = some w) (hv : s.svc n = some v) (code : FaultCode) :
    refuseRecord n code s = refused s n v code := by
  rw [refuseRecord, raiseFault_eq hv]
  exact finishRecord_eq (w := w) hpacker

theorem refuseFormat_eq (hpacker : s.packer = some w) (hv : s.svc n = some v) :
    refuseFormat n s = refused s n { v with ingest := { v.ingest with state := .discarding } } .pictureFormat := by
  rw [refuseFormat, State.modSvc_some s n _ v hv, refuseRecord_eq (w := w) (s := s.putSvc n _) hpacker
    (svc_putSvc_self s n (some (v.setIngest .discarding)))]
  exact putSvc_putSvc n _ _ ({ s.recordDone with ctlAttn := s.ctlAttn || v.faults.entries.isEmpty } : State)

/-- A head for a service that was DRAINING at its take is stray. -/
theorem judgeHead_of_draining (hpacker : s.packer = some w) (hv : s.svc n = some v) (stripes bps : Nat) :
    judgeHead n stripes bps true v s = refused s n v .strayInput := refuseRecord_eq hpacker hv _

/-- A head that finds no picture open opens one next, or is refused for its format (R27). -/
theorem judgeHead_of_closed (hpic : v.picture = none) (stripes bps : Nat) :
    judgeHead n stripes bps false v s = if headFits stripes bps then setPhase .opening s else refuseFormat n s := by
  rw [judgeHead, if_neg Bool.false_ne_true]
  cases hst : v.ingest.state with
  | inPicture p => exact nomatch (picture_of_state hst).symm.trans hpic
  | idle | discarding => rfl

theorem judgeBlocks_of_discarding (hpacker : s.packer = some w) (hst : v.ingest.state = .discarding) (data : List Block) :
    judgeBlocks n data v s = s.recordDone := by
  rw [judgeBlocks, hst, finishRecord_eq hpacker]

theorem judgeBlocks_of_idle (hpacker : s.packer = some w) (hv : s.svc n = some v) (hst : v.ingest.state = .idle)
    (data : List Block) : judgeBlocks n data v s = refused s n v .strayInput := by
  rw [judgeBlocks, hst]
  exact refuseRecord_eq hpacker hv _

theorem judgeTail_of_discarding (hpacker : s.packer = some w) (hv : s.svc n = some v) (hst : v.ingest.state = .discarding)
    (number : Half) : judgeTail n number v s =
      s.recordDone.putSvc n (some { v with ingest := { v.ingest with state := .idle } }) := by
  rw [judgeTail, hst, State.modSvc_some s n _ v hv]
  exact finishRecord_eq (s := s.putSvc n _) hpacker

theorem judgeTail_of_idle (hpacker : s.packer = some w) (hv : s.svc n = some v) (hst : v.ingest.state = .idle)
    (number : Half) : judgeTail n number v s = refused s n v .strayInput := by
  rw [judgeTail, hst]
  exact refuseRecord_eq hpacker hv _

/-- A tail of another number than the open picture's is stray (R34). -/
theorem judgeTail_of_other {p : OpenPicture} (hpacker : s.packer = some w) (hv : s.svc n = some v)
    (hst : v.ingest.state = .inPicture p) {number : Half} (hne : number ≠ p.number) :
    judgeTail n number v s = refused s n v .strayInput := by
  rw [judgeTail, hst]
  dsimp only
  rw [if_neg hne]
  exact refuseRecord_eq hpacker hv _

/-! ## The steps of a withdrawal (O38) -/

theorem modQueue_some (hv : s.svc n = some v) (f : QueueDesc → QueueDesc) :
    s.modQueue n f = s.putSvc n (some { v with queue := f v.queue }) := State.modSvc_some s n _ v hv

/-- The marker that counts a withdrawn picture (R87, R88). -/
def lossMarker (marker : Option Marker) (x : Withdrawal) : Marker :=
  match marker with
  | none =>
    { firstNumber := x.number, count := 1
      cut := match x.firstCell with
        | .sent _ => true
        | .unwritten | .queued _ => false }
  | some m => { m with count := min 255 (m.count + 1) }

theorem endWithdrawal_eq (hv : s.svc n = some v) (x : Withdrawal) :
    endWithdrawal n x s = s.putSvc n (some
      { v with queue := { v.queue with withdrawal := none, marker := some (lossMarker v.queue.marker x) } }) := by
  rw [endWithdrawal, recordLoss, modQueue_some hv, modQueue_some (svc_putSvc_self s n _), putSvc_putSvc]
  unfold lossMarker
  dsimp only
  cases v.queue.marker <;> rfl

theorem withdrawStep_of_end {x : Withdrawal} (hv : s.svc n = some v) (hx : v.queue.withdrawal = some x)
    (h : v.queue.read = v.queue.write ∨ x.firstCell = .unwritten ∨ x.firstCell = .queued v.queue.write) :
    withdrawStep n s = endWithdrawal n x s := by
  rw [withdrawStep, hv]
  dsimp only
  rw [hx]
  dsimp only
  by_cases hfirst : (v.ringEmpty || x.firstCell == .unwritten) = true
  · rw [if_pos hfirst]
  · rw [if_neg hfirst, if_pos (beq_iff_eq.mpr ?queued)]
    rw [Bool.or_eq_true, ringEmpty_iff, beq_iff_eq, not_or] at hfirst
    exact (h.resolve_left hfirst.1).resolve_left hfirst.2

theorem withdrawStep_of_cell {x : Withdrawal} (hv : s.svc n = some v) (hx : v.queue.withdrawal = some x)
    (h : ¬ (v.queue.read = v.queue.write ∨ x.firstCell = .unwritten ∨ x.firstCell = .queued v.queue.write)) :
    withdrawStep n s = s.putSvc n (some
      { v with queue := { v.queue with write := v.cfg.retreat v.queue.write } }) := by
  obtain ⟨hread, hfirst, hqueued⟩ := not_or.mp h |>.imp_right not_or.mp
  rw [withdrawStep, hv]
  dsimp only
  rw [hx]
  dsimp only
  rw [if_neg ?kept, if_neg ?back, modQueue_some hv, hx]
  case back => rwa [beq_iff_eq]
  case kept =>
    rw [Bool.or_eq_true, ringEmpty_iff, beq_iff_eq, not_or]
    exact ⟨hread, hfirst⟩

/-- Settles O38: the step of the withdrawal by the place of the tail, and the held record by its kind and the state of
its service. -/
theorem withdrawalAndHeldRecord : Obligations.WithdrawalAndHeldRecord := by
  refine ⟨fun s n v x hrest hv hx => ?step, fun s n r v k rest hrest hpacker hqueue hn hv hact hw => ?take,
    fun s n r draining k hrest hpacker hn => ⟨fun h => ?absent, fun v hv hact => ?resume⟩⟩
  case step =>
    intro ends marker
    refine ⟨fun h => ?_, fun h => ?_⟩
    · rw [exec_withdraw hrest, withdrawStep_of_end hv hx h, endWithdrawal_eq hv]
      rfl
    · rw [exec_withdraw hrest, withdrawStep_of_cell hv hx h]
      rfl
  case take =>
    subst hn
    have hrow := exec_recordRow hrest k hpacker hqueue
    rw [startRecord_of_withdrawing (s := taking s r rest _) hv hact hw, isDraining_of_svc hv] at hrow
    rw [runStages_of_held (r := r) (draining := v.activity == .draining) k rfl] at hrow
    cases r <;> exact hrow
  case absent =>
    subst hn
    rw [exec_heldRecordResume hrest k hpacker, startRecord_of_absent hpacker draining h, runStages_of_none k rfl]
  case resume =>
    have hvr : s.svc r.service = some v := hn ▸ hv
    intro faulted ingest
    have hresume := exec_heldRecordResume hrest k hpacker
    have hdone {u : State} (hu : startRecord r draining s = u) (hnone : u.packer = none) :
        exec (.heldRecordResume k) s = .next u := by rw [hresume, hu, runStages_of_none k hnone]
    refine ⟨fun hw => ?held, fun hw => ⟨fun m hm hroom => ?gap, fun hm => ?judged⟩⟩
    case held =>
      have hself : setPhase (.held draining) s = s := by
        rw [setPhase_some _ hpacker, ← hpacker]
      rw [hresume, startRecord_of_withdrawing hvr hact hw, hself, runStages_of_held k hpacker]
    case gap =>
      subst hn
      rw [hresume, startRecord_of_room hv hact hw hm hroom]
      exact (exec_heldRecordResume (s := s.gapAppended r.service v m) hrest k hpacker).symm
    case judged =>
      have hjudged := startRecord_of_judged hvr hact hw hm draining
      rw [judgeRecord_eq hvr] at hjudged
      refine ⟨fun data hr => ?_, fun number hr => ?_, fun number kind stripes bps c hr => ?_⟩
      all_goals subst hr
      · exact ⟨fun hst => hdone (hjudged.trans (judgeBlocks_of_discarding hpacker hst data)) rfl,
          fun hst => hdone (hjudged.trans (judgeBlocks_of_idle hpacker hv hst data)) rfl⟩
      · exact ⟨fun hst => hdone (hjudged.trans (judgeTail_of_discarding hpacker hv hst number)) rfl,
          fun hst => hdone (hjudged.trans (judgeTail_of_idle hpacker hv hst number)) rfl⟩
      · refine ⟨fun hd => ?_, fun hd hpic => ⟨fun hfits => ?_, fun hfits => ?_⟩⟩
        · subst hd
          exact hdone (hjudged.trans (judgeHead_of_draining hpacker hv stripes bps)) rfl
        all_goals
          subst hd
          have hclosed := hjudged.trans (judgeHead_of_closed hpic stripes bps)
        · rw [if_pos hfits, setPhase_some _ hpacker] at hclosed
          rw [hresume, hclosed]
          exact (exec_packerRecordWork (s := { s with
            packer := some { record := .picHead n number kind stripes bps c, phase := .opening } }) hrest k).symm
        · rw [if_neg hfits, refuseFormat_eq hpacker hv] at hclosed
          exact hdone hclosed rfl

end Sys2Proof.Proofs
end


section
/-! PROOF. Records that open, code and close nothing (R24, R26, R27, R31, R34, R39). -/

namespace Sys2Proof.Proofs
open Sys2Proof.Machine

variable {s t : State} {n : Svc} {v : Service} {w : PackerWork} {r : Record} {rest : List Record}

/-- The row of a record whose judgement ends the work on it. -/
theorem exec_recordRow_of_done (hrest : s.atRest) (k : Nat) (hpacker : s.packer = none)
    (hqueue : s.ingestQueue = r :: rest)
    (h : startRecord r (s.isDraining r.service) (taking s r rest (s.isDraining r.service)) = t) (hdone : t.packer = none) :
    exec (recordRow r k) s = .next t := by
  rw [exec_recordRow hrest k hpacker hqueue, h, runStages_of_none k hdone]

/-- The row of a record that finds its service a participant, with no withdrawal in flight and no marker to append: the
record is judged as it stands. -/
theorem exec_recordRow_of_judged (hrest : s.atRest) (k : Nat) (hpacker : s.packer = none)
    (hqueue : s.ingestQueue = r :: rest) (hv : s.svc r.service = some v) (hact : v.activity ≠ .defined)
    (hw : v.queue.withdrawal = none) (hm : v.queue.marker = none ∨ v.ringLength = 2 ^ v.cfg.k - 1) :
    exec (recordRow r k) s =
      .next (runStages k (judgeRecord r (v.activity == .draining) (taking s r rest (v.activity == .draining)))) := by
  rw [exec_recordRow hrest k hpacker hqueue, startRecord_of_judged (s := taking s r rest _) hv hact hw hm,
    isDraining_of_svc hv]

/-- The row of such a record whose judgement ends the work on it. -/
theorem exec_recordRow_of_ended (hrest : s.atRest) (k : Nat) (hpacker : s.packer = none)
    (hqueue : s.ingestQueue = r :: rest) (hv : s.svc r.service = some v) (hact : v.activity ≠ .defined)
    (hw : v.queue.withdrawal = none) (hm : v.queue.marker = none)
    (h : judgeRecord r (v.activity == .draining) (taking s r rest (v.activity == .draining)) = t)
    (hdone : t.packer = none) : exec (recordRow r k) s = .next t := by
  rw [exec_recordRow_of_judged hrest k hpacker hqueue hv hact hw (.inl hm), h, runStages_of_none k hdone]

/-- A stage in which the head opens its picture. -/
theorem packerStage_of_opening (h : s.packer = some { record := r, phase := .opening }) :
    packerStage s = openingStage r s := by rw [packerStage, h]

/-- The record of a service that is no participant any more is consumed silently, whatever it is (R24). -/
theorem openingStage_of_absent (hpacker : s.packer = some w) (h : ∀ v ∈ s.svc r.service, v.activity = .defined) :
    openingStage r s = s.recordDone := by
  rw [← finishRecord_eq hpacker]
  unfold openingStage
  split
  · next n number kind stripes bps c v hv =>
    rw [participant_of_defined (h v hv)]
    rfl
  · rfl

/-- A head of a bad format is refused at its open too (R27). -/
theorem openingStage_of_format {number : Half} {kind : PictureKind} {stripes bps c : Nat} (hv : s.svc n = some v)
    (hact : v.activity ≠ .defined) (hw : v.queue.withdrawal = none) (hpic : v.picture = none)
    (hfits : ¬ headFits stripes bps) :
    openingStage (.picHead n number kind stripes bps c) s = refuseFormat n s := by
  have hjudged := judgeHead_of_closed (n := n) (s := s) hpic stripes bps
  unfold openingStage
  rw [show s.svc (Record.service (.picHead n number kind stripes bps c)) = some v from hv]
  dsimp only
  rw [(participant_iff v).mpr hact, withdrawing_of_svc hv, hw]
  cases hst : v.ingest.state with
  | inPicture p => exact nomatch (picture_of_state hst).symm.trans hpic
  | idle | discarding => simp only [if_neg hfits]; rfl

/-- Settles O34: a record in the queue by its judgement, a head about to open its picture by that stage. -/
theorem recordsWithoutAPicture : Obligations.RecordsWithoutAPicture := by
  intro s n r rest k hrest hn hwork row passed faulted
  rcases hwork with ⟨hpacker, hqueue⟩ | ⟨hpacker, hqueue⟩
  case inl =>
    have hrow : row = recordRow r k := by
      simp only [row, hpacker]
      cases r <;> rfl
    clear_value row
    subst hrow
    refine ⟨fun h => ?absent, fun v hv hact hm hw => ?_⟩
    case absent =>
      subst hn
      exact exec_recordRow_of_done hrest k hpacker hqueue (startRecord_of_absent (s := taking s r rest _) rfl _ h) rfl
    have hvt : (taking s r rest (v.activity == .draining)).svc r.service = some v := hn ▸ hv
    have hend {t : State} (h : judgeRecord r (v.activity == .draining) (taking s r rest (v.activity == .draining)) = t)
        (hdone : t.packer = none) : exec (recordRow r k) s = .next t :=
      exec_recordRow_of_ended hrest k hpacker hqueue hvt hact hw hm h hdone
    rw [judgeRecord_eq hvt] at hend
    refine ⟨fun number kind stripes bps c hr hcase hpic hfits => ?format,
      fun _ => ⟨fun data hr hst => ?blocksDropped, fun data hr hst => ?blocksStray, fun number hr hst => ?tailDropped,
        fun number hr hst => ?tailStray, fun number p hr hp hne => ?tailOther,
        fun number kind stripes bps c hr hdraining => ?headStray⟩⟩
    all_goals subst hr
    case format =>
      rw [beq_eq_false_iff_ne.mpr (hcase.resolve_left (not_not_intro hpacker))] at hvt hend
      exact hend ((judgeHead_of_closed hpic stripes bps).trans
        ((if_neg hfits).trans (refuseFormat_eq (s := taking s _ rest false) rfl hvt))) rfl
    case blocksDropped => exact hend (judgeBlocks_of_discarding (s := taking s _ rest _) rfl hst data) rfl
    case blocksStray => exact hend (judgeBlocks_of_idle (s := taking s _ rest _) rfl hvt hst data) rfl
    case tailDropped => exact hend (judgeTail_of_discarding (s := taking s _ rest _) rfl hvt hst number) rfl
    case tailStray => exact hend (judgeTail_of_idle (s := taking s _ rest _) rfl hvt hst number) rfl
    case tailOther =>
      exact hend (judgeTail_of_other (s := taking s _ rest _) rfl hvt (state_of_picture hp) hne) rfl
    case headStray =>
      rw [beq_iff_eq.mpr hdraining] at hvt hend
      exact hend (judgeHead_of_draining (s := taking s _ rest true) rfl hvt stripes bps) rfl
  case inr =>
    have hrow : row = .packerRecordWork (k + 1) := by simp [row, hpacker]
    clear_value row
    subst hrow hqueue
    have hdone {t : State} (h : openingStage r s = t) (hnone : t.packer = none) :
        exec (.packerRecordWork (k + 1)) s = .next t := by
      rw [exec_packerRecordWork hrest, runStages_of_done k ((packerStage_of_opening hpacker).trans h) hnone]
    refine ⟨fun h => hdone (openingStage_of_absent hpacker (hn ▸ h)) rfl, fun v hv hact _ hw =>
      ⟨fun number kind stripes bps c hr _ hpic hfits => ?_, fun hnone => nomatch hnone.symm.trans hpacker⟩⟩
    subst hr
    exact hdone ((openingStage_of_format hv hact hw hpic hfits).trans (refuseFormat_eq hpacker hv)) rfl

end Sys2Proof.Proofs
end


section
/-! PROOF. Building cells (R81 to R85): what writing bits into the open picture of a service does. -/

namespace Sys2Proof.Proofs
open Sys2Proof.Machine

variable {s t : State} {n : Svc} {v : Service} {p : OpenPicture} {bits more : List Bool}

/-! ## The open picture of an entry -/

/-- A service with its open picture replaced. -/
def withPicture (v : Service) (p : OpenPicture) : Service := { v with ingest := { v.ingest with state := .inPicture p } }

theorem withPicture_state (v : Service) (p : OpenPicture) : (withPicture v p).ingest.state = .inPicture p := rfl

/-- A service whose open picture has had a cell appended. -/
def pushed (v : Service) (p : OpenPicture) : Service :=
  { withPicture v p with queue := { v.queue with write := v.onward v.queue.write } }

theorem pushed_state (v : Service) (p : OpenPicture) : (pushed v p).ingest.state = .inPicture p := rfl

theorem withPicture_self (hp : v.ingest.state = .inPicture p) : withPicture v p = v := by
  rw [withPicture, ← hp]

theorem modPicture_putSvc (hp : v.ingest.state = .inPicture p) (f : OpenPicture → OpenPicture) :
    (s.putSvc n (some v)).modPicture n f = s.putSvc n (some (withPicture v (f p))) := by
  rw [State.modPicture, modSvc_putSvc, hp]
  rfl

theorem modPicture_eq (hv : s.svc n = some v) (hp : v.ingest.state = .inPicture p) (f : OpenPicture → OpenPicture) :
    s.modPicture n f = s.putSvc n (some (withPicture v (f p))) := by
  rw [← modPicture_putSvc hp, putSvc_self hv]

theorem modPicture_of_none (h : s.picture n = none) (f : OpenPicture → OpenPicture) : s.modPicture n f = s := by
  cases hv : s.svc n with
  | none => exact modSvc_none hv
  | some v =>
    rw [picture_of_svc hv] at h
    rw [State.modPicture, State.modSvc_some s n _ v hv]
    cases hst : v.ingest.state with
    | inPicture p => exact nomatch (picture_of_state hst).symm.trans h
    | idle | discarding => exact putSvc_self hv

/-! ## Overflow and append -/

/-- The state after an append of the open picture `p` has found the ring full and left the ingest state `st` (R84, R85,
R88). -/
def overflowed (s : State) (n : Svc) (v : Service) (p : OpenPicture) (st : IngestState) : State :=
  ({ s with quant := s.quant.dropUser p.bank, ctlAttn := s.ctlAttn || v.faults.entries.isEmpty } : State).putSvc n (some
    { v with
      queue := v.lossQueue p
      ingest := { v.ingest with state := st }
      faults := v.faults.raise .queueOverflow s.frameNumber })

theorem overflow_eq (hv : s.svc n = some v) (hp : v.ingest.state = .inPicture p) :
    overflow n s = overflowed s n v p (s.abandonedState n) := by
  rw [overflow, raiseFault_eq hv, abandonPicture_eq (svc_putSvc_self _ n (some
    { v with faults := v.faults.raise .queueOverflow s.frameNumber })) hp]
  exact putSvc_putSvc n _ _ ({ s with
    quant := s.quant.dropUser p.bank, ctlAttn := s.ctlAttn || v.faults.entries.isEmpty } : State)

/-- The cell of a picture with `valid` bits. -/
def pictureCell (n : Svc) (start : Bool) (valid : Nat) (bits : List Bool) : PoolCell :=
  { kind := .picture, service := n, start := start, validBits := valid, payload := payloadOfBits bits }

/-- The state after a cell of the open picture `p` has been appended (R78, R82). -/
def appended (s : State) (n : Svc) (v : Service) (p : OpenPicture) (start : Bool) (valid : Nat) (bits : List Bool) :
    State :=
  ({ s with pool := s.pool.write v.queue.write (pictureCell n start valid bits) } : State).putSvc n (some
    (pushed v { p with firstCell := if start then .queued v.queue.write else p.firstCell }))

theorem appendPictureCell_of_room {start : Bool} (hv : s.svc n = some v) (hp : v.ingest.state = .inPicture p)
    (hroom : v.ringLength ≠ 2 ^ v.cfg.k - 1) (valid : Nat) (bits : List Bool) :
    appendPictureCell n start valid bits s = some (appended s n v p start valid bits) := by
  have happend : appendCell n (pictureCell n start valid bits) s = some
      (({ s with pool := s.pool.write v.queue.write (pictureCell n start valid bits) } : State).putSvc n (some
        { v with queue := { v.queue with write := v.onward v.queue.write } })) := by
    rw [appendCell, hv]
    dsimp only
    rw [if_neg (fun hfull => hroom ((ringFull_iff v).mp hfull)),
      modQueue_some (s := { s with pool := s.pool.write v.queue.write (pictureCell n start valid bits) }) hv]
    rfl
  rw [appendPictureCell, hv]
  dsimp only
  rw [show ({ kind := .picture, service := n, start := start, validBits := valid, payload := payloadOfBits bits } :
    PoolCell) = pictureCell n start valid bits from rfl, happend]
  dsimp only
  cases start with
  | true =>
    rw [if_pos rfl]
    exact congrArg some (modPicture_putSvc
      (v := { v with queue := { v.queue with write := v.onward v.queue.write } }) hp _)
  | false =>
    rw [if_neg Bool.false_ne_true, appended, if_neg Bool.false_ne_true, pushed, withPicture_self hp]

theorem appendPictureCell_of_full {start : Bool} (hv : s.svc n = some v) (hfull : v.ringLength = 2 ^ v.cfg.k - 1)
    (valid : Nat) (bits : List Bool) : appendPictureCell n start valid bits s = none := by
  rw [appendPictureCell, hv]
  dsimp only
  rw [appendCell, hv]
  dsimp only
  rw [if_pos ((ringFull_iff v).mpr hfull)]

/-! ## Bits written into the partial cell -/

/-- The open picture after bits have been written that do not fill its cell. -/
def filling (p : OpenPicture) (bits : List Bool) : OpenPicture :=
  { p with cell := { p.cell with bits := p.cell.bits ++ bits }, bitsSpent := p.bitsSpent + bits.length }

/-- The open picture after bits have been written that fill its cell, appended at `write`. -/
def filled (p : OpenPicture) (bits : List Bool) (write : Nat) : OpenPicture :=
  { p with
    cell := { start := false, bits := (p.cell.bits ++ bits).drop 736 }
    bitsSpent := p.bitsSpent + bits.length
    firstCell := if p.cell.start then .queued write else p.firstCell }

theorem written_of_short (h : (p.cell.bits ++ bits).length < 736) :
    s.written n v p bits = s.putSvc n (some (withPicture v (filling p bits))) := if_pos h

theorem written_of_room (h : ¬ (p.cell.bits ++ bits).length < 736) (hroom : v.ringLength ≠ 2 ^ v.cfg.k - 1) :
    s.written n v p bits =
      ({ s with
        pool := s.pool.write v.queue.write
          (pictureCell n p.cell.start 736 ((p.cell.bits ++ bits).take 736)) } : State).putSvc n
        (some (pushed v (filled p bits v.queue.write))) := (if_neg h).trans (if_pos hroom)

theorem written_of_full (h : ¬ (p.cell.bits ++ bits).length < 736) (hfull : v.ringLength = 2 ^ v.cfg.k - 1) :
    s.written n v p bits = overflowed s n v p .discarding := (if_neg h).trans (if_neg (not_not_intro hfull))

/-- Bits written fit the cell or the ring, or their overflow leaves DISCARDING. -/
def writable (s : State) (n : Svc) (v : Service) (p : OpenPicture) (bits : List Bool) : Prop :=
  (p.cell.bits ++ bits).length < 736 ∨ v.ringLength ≠ 2 ^ v.cfg.k - 1 ∨ s.abandonedState n = .discarding

theorem writable_of_append (h : writable s n v p (bits ++ more)) : writable s n v p bits := by
  refine h.imp_left fun hshort => ?_
  simp only [List.length_append] at hshort ⊢
  omega

theorem writeBits_eq (hv : s.svc n = some v) (hp : v.ingest.state = .inPicture p) (h : writable s n v p bits) :
    writeBits n bits s = s.written n v p bits := by
  rw [writeBits, picture_of_svc hv, picture_of_state hp]
  dsimp only
  by_cases hshort : (p.cell.bits ++ bits).length < Config.payloadBits
  · rw [if_pos hshort, written_of_short hshort, modPicture_eq hv hp]
    rfl
  · rw [if_neg hshort]
    by_cases hroom : v.ringLength ≠ 2 ^ v.cfg.k - 1
    · rw [appendPictureCell_of_room hv hp hroom, written_of_room hshort hroom]
      exact modPicture_putSvc (pushed_state ..) _
    · have hfull := not_not.mp hroom
      rw [appendPictureCell_of_full hv hfull, written_of_full hshort hfull]
      dsimp only
      rw [overflow_eq hv hp, (h.resolve_left hshort).resolve_left hroom]

/-- What an entry held before its picture was replaced does not matter to a write. -/
theorem written_putSvc (o : Option Service) (q : OpenPicture) :
    (s.putSvc n o).written n (withPicture v q) p bits = s.written n v p bits := by
  by_cases hshort : (p.cell.bits ++ bits).length < 736
  · rw [written_of_short hshort, written_of_short hshort]
    exact putSvc_putSvc ..
  · by_cases hroom : v.ringLength ≠ 2 ^ v.cfg.k - 1
    · rw [written_of_room hshort hroom, written_of_room (v := withPicture v q) hshort hroom]
      exact putSvc_putSvc n o _ ({ s with
        pool := s.pool.write v.queue.write (pictureCell n p.cell.start 736 ((p.cell.bits ++ bits).take 736)) } : State)
    · have hfull := not_not.mp hroom
      rw [written_of_full hshort hfull, written_of_full (v := withPicture v q) hshort hfull]
      exact putSvc_putSvc n o _ ({ s with
        quant := s.quant.dropUser p.bank, ctlAttn := s.ctlAttn || v.faults.entries.isEmpty } : State)

theorem written_nil (hv : s.svc n = some v) (hp : v.ingest.state = .inPicture p) (hlen : p.cell.bits.length < 736) :
    s.written n v p [] = s := by
  have hsame : filling p [] = p := by simp [filling]
  rw [written_of_short (by simpa using hlen), hsame, withPicture_self hp, putSvc_self hv]

/-- A write touches neither the ingest queue nor the Packer's work. -/
theorem written_held (work : Option PackerWork) (queue : List Record) :
    ({ s with packer := work, ingestQueue := queue } : State).written n v p bits =
      { s.written n v p bits with packer := work, ingestQueue := queue } := by
  by_cases hshort : (p.cell.bits ++ bits).length < 736
  · rw [written_of_short hshort, written_of_short hshort]
    rfl
  · by_cases hroom : v.ringLength ≠ 2 ^ v.cfg.k - 1
    · rw [written_of_room hshort hroom, written_of_room hshort hroom]
      rfl
    · rw [written_of_full hshort (not_not.mp hroom), written_of_full hshort (not_not.mp hroom)]
      rfl

theorem written_packer : (s.written n v p bits).packer = s.packer :=
  (congrArg State.packer (written_held (s := s) s.packer s.ingestQueue :)).trans rfl

/-- A change of the open picture that a write neither reads nor writes. -/
def LeavesBits (f : OpenPicture → OpenPicture) : Prop :=
  ∀ p cell spent first, f { p with cell := cell, bitsSpent := spent, firstCell := first } =
    { f p with cell := cell, bitsSpent := spent, firstCell := first, bank := p.bank, number := p.number }

theorem LeavesBits.self {f : OpenPicture → OpenPicture} (hf : LeavesBits f) (p : OpenPicture) :
    f p = { f p with
      cell := p.cell, bitsSpent := p.bitsSpent, firstCell := p.firstCell, bank := p.bank, number := p.number } :=
  hf p p.cell p.bitsSpent p.firstCell

theorem overflowed_picture (st : IngestState) (h : ∀ q, st ≠ .inPicture q) : (overflowed s n v p st).picture n = none := by
  rw [overflowed, State.picture, svc_putSvc_self]
  dsimp only [Service.picture]
  cases st with
  | inPicture q => exact absurd rfl (h q)
  | idle | discarding => rfl

theorem modPicture_written {f : OpenPicture → OpenPicture} (hf : LeavesBits f) :
    (s.written n v p bits).modPicture n f = s.written n v (f p) bits := by
  obtain ⟨hcell, hspent, hfirst, hbank, hnumber⟩ : (f p).cell = p.cell ∧ (f p).bitsSpent = p.bitsSpent ∧
      (f p).firstCell = p.firstCell ∧ (f p).bank = p.bank ∧ (f p).number = p.number := by
    rw [hf.self p]
    exact ⟨rfl, rfl, rfl, rfl, rfl⟩
  by_cases hshort : (p.cell.bits ++ bits).length < 736
  · have hfilling : f (filling p bits) = filling (f p) bits := by
      rw [filling, filling, hcell, hspent, hf, hfirst, ← hbank, ← hnumber]
    rw [written_of_short hshort, written_of_short (hcell ▸ hshort), modPicture_putSvc (withPicture_state ..), hfilling]
    rfl
  · by_cases hroom : v.ringLength ≠ 2 ^ v.cfg.k - 1
    · have hfilled : f (filled p bits v.queue.write) = filled (f p) bits v.queue.write := by
        rw [filled, filled, hcell, hspent, hfirst, hf, ← hbank, ← hnumber]
      rw [written_of_room hshort hroom, written_of_room (hcell ▸ hshort) hroom, modPicture_putSvc (pushed_state ..),
        hfilled, hcell]
      rfl
    · have hfull := not_not.mp hroom
      have hloss : v.lossQueue (f p) = v.lossQueue p := by unfold Service.lossQueue; rw [hfirst, hnumber]
      rw [written_of_full hshort hfull, written_of_full (hcell ▸ hshort) hfull,
        modPicture_of_none (overflowed_picture .discarding (fun _ h => nomatch h)), overflowed, overflowed, hbank, hloss]

/-- Bits written after bits written are written after them, when together they fill at most one cell. -/
theorem writeBits_written (hlen : p.cell.bits.length < 736) (hbits : (bits ++ more).length ≤ 736)
    (h : writable s n v p (bits ++ more)) :
    writeBits n more (s.written n v p bits) = s.written n v p (bits ++ more) := by
  have hassoc : p.cell.bits ++ (bits ++ more) = p.cell.bits ++ bits ++ more := (List.append_assoc ..).symm
  rw [List.length_append] at hbits
  by_cases hshort : (p.cell.bits ++ bits).length < 736
  · have hwritable : writable s n v (filling p bits) more := by
      rw [writable, hassoc] at h
      exact h
    rw [written_of_short hshort, writeBits_eq (svc_putSvc_self ..) (withPicture_state ..) hwritable, written_putSvc]
    have hsame : filling (filling p bits) more = filling p (bits ++ more) := by
      simp [filling, Nat.add_assoc]
    by_cases hshort' : (p.cell.bits ++ bits ++ more).length < 736
    · rw [written_of_short hshort', written_of_short (hassoc ▸ hshort'), hsame]
    · by_cases hroom : v.ringLength ≠ 2 ^ v.cfg.k - 1
      · have hfilled : filled (filling p bits) more v.queue.write = filled p (bits ++ more) v.queue.write := by
          rw [filled, filled, filling, hassoc, List.length_append, ← Nat.add_assoc]
        rw [written_of_room hshort' hroom, written_of_room (hassoc ▸ hshort') hroom, hfilled, hassoc]
        rfl
      · rw [written_of_full hshort' (not_not.mp hroom), written_of_full (hassoc ▸ hshort') (not_not.mp hroom)]
        rfl
  · have hlong : ¬ (p.cell.bits ++ (bits ++ more)).length < 736 := by
      simp only [List.length_append] at hshort ⊢
      omega
    by_cases hroom : v.ringLength ≠ 2 ^ v.cfg.k - 1
    · have hrest : ((p.cell.bits ++ bits).drop 736 ++ more).length < 736 := by
        have hlong' := hshort
        simp only [List.length_append, List.length_drop] at hlong' ⊢
        omega
      have hle : 736 ≤ (p.cell.bits ++ bits).length := Nat.not_lt.mp hshort
      have hfilled : filling (filled p bits v.queue.write) more = filled p (bits ++ more) v.queue.write := by
        rw [filled, filled, hassoc, List.drop_append_of_le_length hle, List.length_append, ← Nat.add_assoc]
        rfl
      rw [written_of_room hshort hroom, writeBits_eq (p := filled p bits v.queue.write)
          (svc_putSvc_self ..) (pushed_state ..) (.inl hrest),
        written_of_short hrest, written_of_room hlong hroom, putSvc_putSvc, hfilled, hassoc,
        List.take_append_of_le_length hle]
      rfl
    · rw [written_of_full hshort (not_not.mp hroom), written_of_full hlong (not_not.mp hroom), writeBits,
        overflowed_picture .discarding (fun _ h => nomatch h)]

/-- The open picture after a write, but for an overflow. -/
theorem written_picture (h : (p.cell.bits ++ bits).length < 736 ∨ v.ringLength ≠ 2 ^ v.cfg.k - 1) :
    ∃ cell spent first, (s.written n v p bits).picture n =
      some { p with cell := cell, bitsSpent := spent, firstCell := first } := by
  by_cases hshort : (p.cell.bits ++ bits).length < 736
  · exact ⟨_, _, p.firstCell, by rw [written_of_short hshort, picture_of_svc (svc_putSvc_self ..)]; rfl⟩
  · exact ⟨_, _, _, by
      rw [written_of_room hshort (h.resolve_left hshort), picture_of_svc (svc_putSvc_self ..)]; rfl⟩

end Sys2Proof.Proofs
end


section
/-! PROOF. The Packer's stages: what they keep at rest, and the coding of a block (R29, R32, R66 to R68). -/

namespace Sys2Proof.Proofs
open Sys2Proof.Machine

variable {s t : State} {n : Svc} {v : Service} {p q : OpenPicture} {bits more : List Bool}

/-! ## A stage leaves the part at rest -/

theorem atRest_of_cellWork (h : s.cellWork n t) (hrest : s.atRest) : t.atRest := by
  rw [h.2]
  exact hrest

theorem setPhase_atRest (ph : WorkPhase) (hrest : s.atRest) : (setPhase ph s).atRest := by
  rw [setPhase_eq]
  exact hrest

theorem finishRecord_atRest (hrest : s.atRest) : s.finishRecord.atRest := by
  unfold State.finishRecord
  split <;> exact hrest

theorem raiseFault_atRest (n : Svc) (code : FaultCode) (hrest : s.atRest) : (raiseFault n code s).atRest :=
  atRest_of_cellWork (raiseFault_cellWork n code s) hrest

theorem modSvc_atRest (n : Svc) (f : Service → Service) (hrest : s.atRest) : (s.modSvc n f).atRest :=
  atRest_of_cellWork (modSvc_cellWork n f s) hrest

theorem drainTest_atRest (n : Svc) (hrest : s.atRest) : (drainTest n s).atRest := by
  cases hv : s.svc n with
  | none =>
    rw [drainTest, hv]
    exact hrest
  | some v =>
    rw [drainTest_some n s v hv]
    split <;> exact hrest

theorem refuseFormat_atRest (n : Svc) (hrest : s.atRest) : (refuseFormat n s).atRest :=
  finishRecord_atRest (raiseFault_atRest n _ (modSvc_atRest n _ hrest))

theorem openPicture_atRest (n : Svc) (number : Half) (kind : PictureKind) (stripes bps c : Nat) (hrest : s.atRest) :
    (openPicture n number kind stripes bps c s).atRest := by
  unfold openPicture
  split
  · refine modSvc_atRest n _ ?_
    have htested (f : Service → Service) :
        (markerTest n (({ s with quant := s.quant.addUser s.quant.active } : State).modSvc n f)).atRest :=
      atRest_of_cellWork (markerTest_cellWork n _)
        (modSvc_atRest (s := { s with quant := s.quant.addUser s.quant.active }) n f hrest)
    split
    · exact atRest_of_cellWork (overflow_cellWork n _) (modSvc_atRest n _ (htested _))
    · exact atRest_of_cellWork (writeBits_cellWork n _ _) (modSvc_atRest n _ (htested _))
  · exact hrest

theorem openingStage_atRest (r : Record) (hrest : s.atRest) : (openingStage r s).atRest := by
  unfold openingStage
  split
  · next n number kind stripes bps c v _ =>
    have hjudged : (if headFits stripes bps then (openPicture n number kind stripes bps c s).finishRecord
        else refuseFormat n s).atRest := by
      split_ifs
      · exact finishRecord_atRest (openPicture_atRest n number kind stripes bps c hrest)
      · exact refuseFormat_atRest n hrest
    split
    · exact finishRecord_atRest hrest
    · split
      · exact setPhase_atRest _ hrest
      · split
        · exact setPhase_atRest _ (raiseFault_atRest n _ hrest)
        · exact hjudged
        · exact hjudged
  · exact finishRecord_atRest hrest

theorem codingStage_atRest (n : Svc) (rest : List Block) (excess : Bool) (hrest : s.atRest) :
    (codingStage n rest excess s).atRest := by
  unfold codingStage
  split
  · next p b more _ =>
    have hcoded : (if p.blocksCoded < p.totalBlocks then codeBlock n b s
        else if excess then s else raiseFault n .pictureExcess s).atRest := by
      split_ifs
      · exact atRest_of_cellWork (codeBlock_cellWork n b s) hrest
      · exact hrest
      · exact raiseFault_atRest n _ hrest
    dsimp only
    split
    · exact finishRecord_atRest hcoded
    · exact setPhase_atRest _ hcoded
  · exact finishRecord_atRest hrest
  · exact finishRecord_atRest hrest

theorem afterAbandonedClose_atRest (n : Svc) (hrest : s.atRest) : (afterAbandonedClose n s).atRest := by
  unfold afterAbandonedClose
  split
  · split
    · exact finishRecord_atRest hrest
    · exact setPhase_atRest _ hrest
    · exact finishRecord_atRest hrest
  · exact hrest

theorem afterNormalClose_atRest (hrest : s.atRest) : (afterNormalClose s).atRest := by
  unfold afterNormalClose
  split
  · split
    · exact setPhase_atRest _ hrest
    · exact finishRecord_atRest hrest
    · exact finishRecord_atRest hrest
  · exact hrest

theorem normalClose_atRest (n : Svc) (p : OpenPicture) (hrest : s.atRest) : (normalClose n p s).atRest := by
  refine drainTest_atRest n (modSvc_atRest (s := { (if p.saturated then raiseFault n .levelSaturated _ else _) with
    quant := _ }) n _ ?_)
  change (if p.saturated = true then raiseFault n .levelSaturated _ else _ : State).atRest
  split_ifs
  · exact raiseFault_atRest n _ (modSvc_atRest n _ hrest)
  · exact modSvc_atRest n _ hrest

theorem closingStage_atRest (n : Svc) (short : Bool) (hrest : s.atRest) : (closingStage n short s).atRest := by
  unfold closingStage
  split
  · next p _ =>
    have hmissing := atRest_of_cellWork (codeMissing_cellWork n s) hrest
    have htold : (if short then raiseFault n .pictureShort s else s).atRest := by
      split_ifs
      · exact raiseFault_atRest n _ hrest
      · exact hrest
    dsimp only
    split
    · split
      · exact setPhase_atRest _ hmissing
      · exact afterAbandonedClose_atRest n hmissing
    · split
      · exact afterNormalClose_atRest (normalClose_atRest n p htold)
      · split
        · next u hu =>
          exact afterNormalClose_atRest (normalClose_atRest n p
            (atRest_of_cellWork (appendPictureCell_cellWork n _ _ _ _ u hu) htold))
        · exact afterAbandonedClose_atRest n (atRest_of_cellWork (overflow_cellWork n _) htold)
  · exact afterAbandonedClose_atRest n hrest

theorem packerStage_atRest (hrest : s.atRest) : (packerStage s).atRest := by
  unfold packerStage
  split
  · split
    · exact hrest
    · exact openingStage_atRest _ hrest
    · exact codingStage_atRest _ _ _ hrest
    · exact closingStage_atRest _ _ hrest
    · exact finishRecord_atRest hrest
  · exact hrest

/-- PACKER_RECORD_WORK for a number of stages is that number of rows of one stage. -/
theorem exec_packerRecordWork_succ (hrest : s.atRest) (h : exec (.packerRecordWork 1) s = .next t) (k : Nat) :
    exec (.packerRecordWork (k + 1)) s = exec (.packerRecordWork k) t := by
  rw [exec_packerRecordWork hrest] at h
  obtain rfl : packerStage s = t := Host.Outcome.next.inj h
  rw [exec_packerRecordWork hrest, exec_packerRecordWork (packerStage_atRest hrest)]
  rfl

/-! ## A stripe begun, and a block coded -/

/-- The open picture as it begins a stripe under a qs (R68). -/
def onStripe (s : State) (p : OpenPicture) (qs : Nat) (emergency : Bool) : OpenPicture :=
  { p with
    qs := qs
    qsSum := p.qsSum + qs
    emergency := emergency
    steps := stripeSteps ((s.quant.bank p.bank).table p.kind) qs }

theorem beginStripe_eq (hv : s.svc n = some v) (hp : v.ingest.state = .inPicture p) (qs : Nat) (emergency : Bool)
    (h : writable s n v p (stripeHeader qs)) :
    beginStripe n qs emergency s = s.written n v (onStripe s p qs emergency) (stripeHeader qs) := by
  rw [beginStripe, modPicture_eq hv hp]
  exact (writeBits_eq (v := withPicture v (onStripe s p qs emergency)) (svc_putSvc_self ..) (withPicture_state ..) h).trans
    (written_putSvc ..)

/-- The open picture with one block more coded. -/
def blockCounted (p : OpenPicture) : OpenPicture := { p with blocksCoded := p.blocksCoded + 1 }

theorem leavesBits_blockCounted : LeavesBits blockCounted := fun _ _ _ _ => rfl

/-- The open picture with its saturation mark set if a level saturates. -/
def marked (saturates : Bool) (p : OpenPicture) : OpenPicture := { p with saturated := p.saturated || saturates }

theorem leavesBits_marked (saturates : Bool) : LeavesBits (marked saturates) := fun _ _ _ _ => rfl

/-- A block's code written after its header, and the block blockCounted; an overflow in the header ends it. -/
theorem coded_after_header {f : OpenPicture → OpenPicture} (hf : LeavesBits f) (hlen : p.cell.bits.length < 736)
    (hbits : (bits ++ more).length ≤ 736) (h : writable s n v (f p) (bits ++ more)) :
    ((s.written n v p bits).picture n = none ∧ s.written n v p bits = s.written n v (blockCounted (f p)) (bits ++ more)) ∨
      ((∃ cell spent first, (s.written n v p bits).picture n =
          some { p with cell := cell, bitsSpent := spent, firstCell := first }) ∧
        (writeBits n more ((s.written n v p bits).modPicture n f)).modPicture n blockCounted =
          s.written n v (blockCounted (f p)) (bits ++ more)) := by
  have hcell : (blockCounted (f p)).cell = p.cell := by rw [hf.self p]; rfl
  by_cases hroom : (p.cell.bits ++ bits).length < 736 ∨ v.ringLength ≠ 2 ^ v.cfg.k - 1
  · refine .inr ⟨written_picture hroom, ?_⟩
    rw [modPicture_written hf, writeBits_written (hcell ▸ hlen) hbits h, modPicture_written leavesBits_blockCounted]
  · obtain ⟨hlong, hfull⟩ := not_or.mp hroom
    have hover := written_of_full (s := s) (n := n) (v := v) hlong (not_not.mp hfull)
    have hlong' : ¬ ((blockCounted (f p)).cell.bits ++ (bits ++ more)).length < 736 := by
      rw [hcell]
      simp only [List.length_append] at hlong ⊢
      omega
    refine .inl ⟨by rw [hover]; exact overflowed_picture .discarding (fun _ h => nomatch h), ?_⟩
    rw [hover, written_of_full hlong' (not_not.mp hfull), hf.self p]
    rfl

/-- The open picture as the next block finds it, and the header that is written before the block's code. -/
def stripeStart (s : State) (v : Service) (p : OpenPicture) : OpenPicture × List Bool :=
  let d := stripeDecision p v.ringFree (p.blocksCoded / p.blocksPerStripe)
  if p.beginsStripe p.blocksCoded then (onStripe s p d.1 d.2, stripeHeader d.1) else (p, [])

theorem stripeStart_cell (s : State) (v : Service) (p : OpenPicture) : (stripeStart s v p).1.cell = p.cell := by
  unfold stripeStart
  dsimp only
  split <;> rfl

theorem stripeStart_header_length (s : State) (v : Service) (p : OpenPicture) : (stripeStart s v p).2.length ≤ 6 := by
  unfold stripeStart
  dsimp only
  split
  · simp [stripeHeader]
  · simp

theorem stripeStart_steps_length (s : State) (v : Service) (h : p.steps.length = 16) :
    (stripeStart s v p).1.steps.length = 16 := by
  unfold stripeStart
  dsimp only
  split
  · exact length_stripeSteps _ _
  · exact h

theorem decided_eq (hv : s.svc n = some v) (hp : v.ingest.state = .inPicture p) (hlen : p.cell.bits.length < 736)
    (h : writable s n v p (stripeStart s v p).2) :
    (if p.beginsStripe p.blocksCoded then decideStripe n s else s) =
      s.written n v (stripeStart s v p).1 (stripeStart s v p).2 := by
  unfold stripeStart at h ⊢
  dsimp only at h ⊢
  by_cases hbegins : p.beginsStripe p.blocksCoded = true
  · rw [if_pos hbegins] at h ⊢
    rw [if_pos hbegins, decideStripe, hv]
    dsimp only
    rw [picture_of_state hp]
    exact beginStripe_eq hv hp _ _ h
  · rw [if_neg hbegins, if_neg hbegins]
    exact (written_nil hv hp hlen).symm

/-- The code of a block under the steps of its stripe. -/
def codeOf (p : OpenPicture) (b : Block) : List Bool := blockCode (quantizeBlock p.steps p.rnd b)

/-- A block of a BLOCKS record coded into the open picture (R29). -/
theorem codeBlock_eq (hv : s.svc n = some v) (hp : v.ingest.state = .inPicture p) (b : Block)
    (hst : s.abandonedState n = .discarding) (hlen : p.cell.bits.length < 736) (hsteps : p.steps.length = 16) :
    codeBlock n b s = s.written n v
      (blockCounted (marked (blockSaturates (stripeStart s v p).1.steps (stripeStart s v p).1.rnd b) (stripeStart s v p).1))
      ((stripeStart s v p).2 ++ codeOf (stripeStart s v p).1 b) := by
  have hdecided := decided_eq hv hp hlen (.inr (.inr hst))
  have hcell := stripeStart_cell s v p
  have hheader := stripeStart_header_length s v p
  have hsteps' := stripeStart_steps_length s v hsteps
  rw [codeBlock, picture_of_svc hv, picture_of_state hp]
  dsimp only
  rw [hdecided]
  generalize hstart : stripeStart s v p = start at *
  obtain ⟨q, header⟩ := start
  dsimp only at *
  have hcode : (header ++ codeOf q b).length ≤ 736 := by
    have := length_blockCode_quantizeBlock hsteps' q.rnd b
    rw [List.length_append, codeOf]
    omega
  rcases coded_after_header (leavesBits_marked (blockSaturates q.steps q.rnd b)) (hcell ▸ hlen) hcode
    (.inr (.inr hst)) with ⟨hnone, hover⟩ | ⟨⟨cell, spent, first, hsome⟩, hcoded⟩
  · rw [hnone]
    exact hover
  · rw [hsome]
    exact hcoded

end Sys2Proof.Proofs
end


section
/-! PROOF. A block of a BLOCKS record (R29, R30, R48, R49, R66 to R68). -/

namespace Sys2Proof.Proofs
open Sys2Proof.Machine

variable {s t : State} {n : Svc} {v : Service} {p : OpenPicture} {b : Block} {more data : List Block} {excess : Bool}

/-! ## The decision and the levels, as the obligations spell them -/

theorem clampNat_eq {lo hi : Nat} (h : lo ≤ hi) (x : Nat) : clampNat lo hi x = max lo (min hi x) := by
  unfold clampNat
  split_ifs <;> omega

theorem stripeDecision_of_forced {free j : Nat} (h : p.emergency = true ∨ free < 4) :
    stripeDecision p free j = (p.qmax, true) := by
  unfold stripeDecision
  by_cases he : p.emergency = true
  · rw [if_pos he]
  · rw [if_neg he, if_pos (h.resolve_left he)]

theorem stripeDecision_of_banded {free j : Nat} (h : ¬ (p.emergency = true ∨ free < 4)) (hq : p.qmin ≤ p.qmax) :
    stripeDecision p free j = (max p.qmin (min p.qmax (bandQs p.bitsSpent (p.shareDue j) p.qs)), false) := by
  obtain ⟨he, hfree⟩ := not_or.mp h
  rw [stripeDecision, if_neg he, if_neg hfree, clampNat_eq hq]

/-- The magnitudes of a block under the steps of its stripe (R48). -/
def magnitudes (steps : List Nat) (rnd : Nat) (b : Block) : List Nat :=
  List.zipWith (fun (step : Nat) (c : BitVec 12) => (c.toInt.natAbs + step * rnd / 8) / step) steps b

theorem levels_of_magnitudes (steps : List Nat) (rnd : Nat) (b : Block) :
    List.zipWith (fun (m : Nat) (c : BitVec 12) => c.toInt.sign * ((min 255 m : Nat) : Int)) (magnitudes steps rnd b) b =
      quantizeBlock steps rnd b := by
  unfold magnitudes quantizeBlock
  induction steps generalizing b with
  | nil => rfl
  | cons step steps ih =>
    cases b with
    | nil => rfl
    | cons c b => exact congrArg (levelOf step rnd c.toInt :: ·) (ih b)

/-- A zero coefficient does not saturate. -/
theorem magnitude_zero {step rnd : Nat} (hstep : 1 ≤ step) (hrnd : rnd ≤ 4) : magnitude step rnd 0 = 0 := by
  have hle : step * rnd ≤ step * 4 := Nat.mul_le_mul_left step hrnd
  refine Nat.div_eq_of_lt ?_
  rw [Int.natAbs_zero]
  omega

theorem saturates_eq {step rnd : Nat} (hstep : 1 ≤ step) (hrnd : rnd ≤ 4) (c : Int) :
    saturates step rnd c = decide (255 < magnitude step rnd c) := by
  by_cases hc : c = 0
  · rw [saturates, hc, magnitude_zero hstep hrnd]
    rfl
  · simp [saturates, hc]

theorem any_magnitudes {steps : List Nat} {rnd : Nat} (hsteps : ∀ step ∈ steps, 1 ≤ step) (hrnd : rnd ≤ 4) (b : Block) :
    ((magnitudes steps rnd b).any fun m => 255 < m) = blockSaturates steps rnd b := by
  unfold magnitudes blockSaturates
  induction steps generalizing b with
  | nil => rfl
  | cons step steps ih =>
    cases b with
    | nil => rfl
    | cons c b =>
      obtain ⟨hstep, hrest⟩ := List.forall_mem_cons.mp hsteps
      simp only [List.zipWith_cons_cons, List.any_cons, id_eq, ih hrest b, saturates_eq hstep hrnd]
      rfl

theorem beginsStripe_iff (p : OpenPicture) :
    p.beginsStripe p.blocksCoded = true ↔ p.blocksCoded ≠ 0 ∧ p.blocksCoded % p.blocksPerStripe = 0 := by
  simp [OpenPicture.beginsStripe]

theorem one_le_of_mem_stripeSteps {table : WeightTable} {qs step : Nat} (h : step ∈ stripeSteps table qs) : 1 ≤ step := by
  obtain ⟨w, -, rfl⟩ := List.mem_map.mp h
  exact Nat.le_max_left 1 _

theorem stripeStart_steps (s : State) (v : Service) (h : ∀ step ∈ p.steps, 1 ≤ step) :
    ∀ step ∈ (stripeStart s v p).1.steps, 1 ≤ step := by
  unfold stripeStart
  dsimp only
  split
  · exact fun _ => one_le_of_mem_stripeSteps
  · exact h

theorem rnd_le (hintra : p.rndIntra ≤ 4) (hpred : p.rndPred ≤ 4) : p.rnd ≤ 4 := by
  unfold OpenPicture.rnd
  split
  · exact hintra
  · exact hpred

theorem stripeStart_rnd (s : State) (v : Service) (p : OpenPicture) : (stripeStart s v p).1.rnd = p.rnd := by
  unfold stripeStart
  dsimp only
  split <;> rfl

/-! ## The stage -/

/-- What is left of a BLOCKS record after one of its blocks: the rest, or the end of the work. -/
def afterBlock (t : State) (n : Svc) (data more : List Block) (excess : Bool) : State :=
  if more = [] then t.recordDone
  else { t with packer := some { record := .blocks n data, phase := .coding more excess } }

theorem codingStage_eq {next : Bool} (hpic : s.picture n = some p) (hwork : t.packer = s.packer)
    (hs : s.packer = some { record := .blocks n data, phase := .coding (b :: more) excess })
    (ht : t = if p.blocksCoded < p.stripes * p.blocksPerStripe then codeBlock n b s
      else if excess then s else raiseFault n .pictureExcess s)
    (hnext : (excess || !decide (p.blocksCoded < p.stripes * p.blocksPerStripe)) = next) :
    packerStage s = afterBlock t n data more next := by
  have hpacker := hwork.trans hs
  have hstage : packerStage s = codingStage n (b :: more) excess s := by rw [packerStage, hs]; rfl
  rw [hstage]
  unfold codingStage
  rw [hpic]
  dsimp only
  rw [show (if p.blocksCoded < p.totalBlocks then codeBlock n b s
    else if excess then s else raiseFault n .pictureExcess s) = t from ht.symm, afterBlock, ← hnext]
  cases more with
  | nil => exact finishRecord_eq hpacker
  | cons b' more =>
    rw [setPhase_some _ hpacker]
    rfl

theorem abandonedState_of_blocks {phase : WorkPhase} (n m : Svc)
    (h : s.packer = some { record := .blocks m data, phase := phase }) : s.abandonedState n = .discarding :=
  abandonedState_of_no_tail (by rw [h]; exact id)

/-- A block within its picture is coded into it. -/
theorem packerStage_of_block (hv : s.svc n = some v) (hp : v.ingest.state = .inPicture p)
    (hwork : s.packer = some { record := .blocks n data, phase := .coding (b :: more) excess })
    (hwithin : p.blocksCoded < p.stripes * p.blocksPerStripe) (hlen : p.cell.bits.length < 736)
    (hsteps : p.steps.length = 16) :
    packerStage s = afterBlock (s.written n v
      (blockCounted (marked (blockSaturates (stripeStart s v p).1.steps (stripeStart s v p).1.rnd b) (stripeStart s v p).1))
      ((stripeStart s v p).2 ++ codeOf (stripeStart s v p).1 b)) n data more excess := by
  have hcoded := codeBlock_eq hv hp b (abandonedState_of_blocks n n hwork) hlen hsteps
  refine codingStage_eq ((picture_of_svc hv).trans (picture_of_state hp)) ?_ hwork ?_ ?_
  · exact written_packer
  · rw [if_pos hwithin, hcoded]
  · simp [hwithin]

/-- An excess block is dropped, and the first of a record raises PICTURE_EXCESS (R30). -/
theorem packerStage_of_excess (hv : s.svc n = some v) (hp : v.ingest.state = .inPicture p)
    (hwork : s.packer = some { record := .blocks n data, phase := .coding (b :: more) excess })
    (hexcess : p.stripes * p.blocksPerStripe ≤ p.blocksCoded) :
    packerStage s = afterBlock (if excess then s
      else ({ s with ctlAttn := s.ctlAttn || v.faults.entries.isEmpty } : State).putSvc n (some
        { v with faults := v.faults.raise .pictureExcess s.frameNumber })) n data more true := by
  refine codingStage_eq ((picture_of_svc hv).trans (picture_of_state hp)) ?_ hwork ?_ ?_
  · cases excess <;> rfl
  · rw [if_neg (Nat.not_lt.mpr hexcess), raiseFault_eq hv]
  · simp [hexcess]

theorem judgeBlocks_of_open (hp : v.ingest.state = .inPicture p) (data : List Block) :
    judgeBlocks n data v s = setPhase (.coding data false) s := by rw [judgeBlocks, hp]

/-- The take of a BLOCKS record for an open picture, and the work on it. -/
theorem exec_blocks_taken {rest : List Record} (hrest : s.atRest) (hpacker : s.packer = none)
    (hqueue : s.ingestQueue = .blocks n data :: rest) (hv : s.svc n = some v) (hact : v.activity ≠ .defined)
    (hp : v.ingest.state = .inPicture p) (hm : v.queue.marker = none) (hw : v.queue.withdrawal = none) (k : Nat) :
    exec (.blocks k) s = exec (.packerRecordWork k)
      { s with ingestQueue := rest, packer := some { record := .blocks n data, phase := .coding data false } } := by
  have hrow := exec_recordRow_of_judged (r := .blocks n data) hrest k hpacker hqueue hv hact hw (.inl hm)
  have hvt : (taking s (.blocks n data) rest (v.activity == .draining)).svc n = some v := hv
  rw [judgeRecord_eq (r := .blocks n data) hvt] at hrow
  dsimp only at hrow
  rw [judgeBlocks_of_open hp, setPhase_some (w := { record := .blocks n data, phase := .held _ }) _ rfl] at hrow
  exact hrow.trans (exec_packerRecordWork
    (s := { s with ingestQueue := rest, packer := some { record := .blocks n data, phase := .coding data false } })
    hrest k).symm

/-- Settles O35: the stripe decision and the levels as `stripeStart` and `codeOf` name them, and one stage for each
block. -/
theorem blockIsCodedIntoThePicture : Obligations.BlockIsCodedIntoThePicture := by
  refine ⟨?block, ?excess, fun s n v p data rest k hrest hpacker hqueue hv hact hp hm hw =>
    exec_blocks_taken hrest hpacker hqueue hv hact hp hm hw k, fun s t k hrest h => exec_packerRecordWork_succ hrest h k⟩
  case excess =>
    intro s n v p b more data excess hrest hv hp hexcess hwork told
    rw [exec_packerRecordWork hrest]
    exact congrArg _ (packerStage_of_excess hv hp hwork hexcess)
  case block =>
    intro s n v p b more hrest hv hact hp hm hw hwithin hlen hsteps hpos hintra hpred hq begins due forced banded qs table
      steps header rnd mags levels pic coded
    have hrnd : rnd = p.rnd := rfl
    have hdecision : stripeDecision p v.ringFree (p.blocksCoded / p.blocksPerStripe) = (qs, decide forced) := by
      by_cases hforced : forced
      · rw [stripeDecision_of_forced (free := v.ringFree) hforced]
        simp only [qs, if_pos hforced, decide_eq_true hforced]
      · rw [stripeDecision_of_banded (free := v.ringFree) hforced hq]
        simp only [qs, if_neg hforced, decide_eq_false hforced]
        rfl
    have htable : (s.quant.bank p.bank).table p.kind = table := by
      simp only [table]
      cases p.bank <;> cases p.kind <;> rfl
    have hstart : stripeStart s v p = ({ p with
        qs := if begins then qs else p.qs, qsSum := if begins then p.qsSum + qs else p.qsSum
        emergency := if begins then decide forced else p.emergency, steps := steps }, header) := by
      unfold stripeStart
      rw [hdecision]
      dsimp only
      by_cases hbegins : begins
      · rw [if_pos ((beginsStripe_iff p).mpr hbegins), onStripe, htable]
        simp only [steps, header, if_pos hbegins]
        rfl
      · rw [if_neg fun h => hbegins ((beginsStripe_iff p).mp h)]
        simp only [steps, header, if_neg hbegins]
    have hmags : mags = magnitudes steps p.rnd b := rfl
    have hlevels : levels = quantizeBlock steps p.rnd b := levels_of_magnitudes steps p.rnd b
    have hsat : (mags.any fun m => 255 < m) = blockSaturates steps p.rnd b := by
      have hstepsPos := stripeStart_steps s v hpos
      rw [hstart] at hstepsPos
      exact any_magnitudes hstepsPos (rnd_le hintra hpred) b
    have hcoded {t : State} (hquant : t.quant = s.quant) :
        t.written n v (blockCounted (marked (blockSaturates (stripeStart t v p).1.steps (stripeStart t v p).1.rnd b)
          (stripeStart t v p).1)) ((stripeStart t v p).2 ++ codeOf (stripeStart t v p).1 b) =
          t.written n v pic (header ++ blockCode levels) := by
      have hsame : stripeStart t v p = stripeStart s v p := by unfold stripeStart onStripe; rw [hquant]
      rw [hsame, stripeStart_rnd, codeOf, stripeStart_rnd, hstart, ← hsat, hlevels]
      rfl
    refine ⟨fun rest k hpacker hqueue => ?_, fun data excess hwork => ?_⟩
    · rw [exec_blocks_taken hrest hpacker hqueue hv hact hp hm hw]
      generalize ht : ({ s with
        ingestQueue := rest, packer := some { record := .blocks n [b], phase := .coding [b] false } } : State) = t
      have hstage := packerStage_of_block (s := t) (n := n) (v := v) (p := p) (b := b) (more := []) (data := [b])
        (excess := false) (by rw [← ht]; exact hv) hp (by rw [← ht]) hwithin hlen hsteps
      rw [hcoded (by rw [← ht]), afterBlock, if_pos rfl] at hstage
      rw [exec_packerRecordWork (by rw [← ht]; exact hrest), runStages_of_done k hstage rfl, ← ht, written_held]
      rfl
    · rw [exec_packerRecordWork hrest]
      have hstage := packerStage_of_block hv hp hwork hwithin hlen hsteps
      rw [hcoded rfl] at hstage
      exact congrArg _ hstage

end Sys2Proof.Proofs
end


section
/-! PROOF. The close of a picture (R26, R32, R33, R43, R71, R78, R83 to R85). -/

namespace Sys2Proof.Proofs
open Sys2Proof.Machine

variable {s t : State} {n : Svc} {v : Service} {p : OpenPicture} {r : Record} {bits : List Bool} {short : Bool}

/-! ## A fault raised under a condition -/

/-- A fault list after a fault has been raised under a condition. -/
def raisedIf (flag : Bool) (l : FaultList) (code : FaultCode) (frame : Word) : FaultList :=
  if flag then l.raise code frame else l

theorem raiseFault_if_putSvc (flag : Bool) (code : FaultCode) (s : State) (n : Svc) (v : Service) :
    (if flag then raiseFault n code (s.putSvc n (some v)) else s.putSvc n (some v)) =
      ({ s with ctlAttn := s.ctlAttn || (flag && v.faults.entries.isEmpty) } : State).putSvc n
        (some { v with faults := raisedIf flag v.faults code s.frameNumber }) := by
  cases flag with
  | true => exact raiseFault_putSvc ..
  | false => rw [Bool.false_and, Bool.or_false]; rfl

theorem raiseFault_if (hv : s.svc n = some v) (flag : Bool) (code : FaultCode) :
    (if flag then raiseFault n code s else s) =
      ({ s with ctlAttn := s.ctlAttn || (flag && v.faults.entries.isEmpty) } : State).putSvc n
        (some { v with faults := raisedIf flag v.faults code s.frameNumber }) := by
  rw [← raiseFault_if_putSvc, putSvc_self hv]

/-- A second fault finds the list empty only if the first was not raised. -/
theorem isEmpty_raisedIf (a b c : Bool) (l : FaultList) (code : FaultCode) (frame : Word) :
    (c || (a && l.entries.isEmpty) || (b && (raisedIf a l code frame).entries.isEmpty)) =
      (c || ((a || b) && l.entries.isEmpty)) := by
  cases a with
  | true =>
    have hraised : (raisedIf true l code frame).entries.isEmpty = false :=
      Bool.eq_false_iff.mpr fun h => raise_entries_ne_nil l code frame (List.isEmpty_iff.mp h)
    rw [hraised, Bool.and_false, Bool.or_false, Bool.true_or]
  | false => rw [Bool.false_and, Bool.or_false, Bool.false_or]; rfl

/-! ## The end of a normal close -/

/-- A service after a normal close of its picture `p` (R32, R71). -/
def closedService (v : Service) (p : OpenPicture) (frame : Word) : Service :=
  { v with
    ingest := { v.ingest with state := .idle }
    stats := some p.closeStats
    faults := raisedIf p.saturated v.faults .levelSaturated frame }

theorem normalClose_putSvc (s : State) (n : Svc) (v : Service) (p : OpenPicture) :
    normalClose n p (s.putSvc n (some v)) =
      ({ s with
        quant := s.quant.dropUser p.bank
        ctlAttn := s.ctlAttn || (p.saturated && v.faults.entries.isEmpty) } : State).putDrained n
          (closedService v p s.frameNumber) := by
  rw [normalClose, modSvc_putSvc, raiseFault_if_putSvc, ← drainTest_putSvc]
  exact congrArg (drainTest n) (modSvc_putSvc n { v with
      stats := some p.closeStats, faults := raisedIf p.saturated v.faults .levelSaturated s.frameNumber } _
    ({ s with
      quant := s.quant.dropUser p.bank, ctlAttn := s.ctlAttn || (p.saturated && v.faults.entries.isEmpty) } : State))

/-- The drain test touches neither the ingest queue nor the Packer's work. -/
theorem putDrained_held (work : Option PackerWork) (queue : List Record) (w : Service) :
    ({ s with packer := work, ingestQueue := queue } : State).putDrained n w =
      { s.putDrained n w with packer := work, ingestQueue := queue } := by
  unfold State.putDrained
  split <;> rfl

theorem putDrained_packer (w : Service) : (s.putDrained n w).packer = s.packer :=
  (congrArg State.packer (putDrained_held (s := s) (n := n) s.packer s.ingestQueue w :)).trans rfl

/-- The pool after the partial cell of a closing picture has been appended, if it holds any bit. -/
def lastCellPool (s : State) (n : Svc) (v : Service) (p : OpenPicture) : Pool :=
  if p.cell.bits = [] then s.pool
  else s.pool.write v.queue.write (pictureCell n p.cell.start p.cell.bits.length p.cell.bits)

/-- The queue after the partial cell of a closing picture has been appended, if it holds any bit. -/
def lastCellQueue (v : Service) (p : OpenPicture) : QueueDesc :=
  if p.cell.bits = [] then v.queue else { v.queue with write := v.onward v.queue.write }

/-- What a normal close of the open picture `p` of service `n` changes outside the service's entry. -/
def closedPart (s : State) (n : Svc) (v : Service) (p : OpenPicture) (short : Bool) : State :=
  { s with
    pool := lastCellPool s n v p
    quant := s.quant.dropUser p.bank
    ctlAttn := s.ctlAttn || ((short || p.saturated) && v.faults.entries.isEmpty) }

/-- The state after a normal close of the open picture `p` of service `n`, before what follows it. -/
def closedState (s : State) (n : Svc) (v : Service) (p : OpenPicture) (short : Bool) : State :=
  (closedPart s n v p short).putDrained n (closedService
    { v with queue := lastCellQueue v p, faults := raisedIf short v.faults .pictureShort s.frameNumber } p s.frameNumber)

theorem appended_putSvc (o : Option Service) (start : Bool) (valid : Nat) (bits : List Bool) :
    appended (s.putSvc n o) n v p start valid bits = appended s n v p start valid bits :=
  putSvc_putSvc n o _ ({ s with pool := s.pool.write v.queue.write (pictureCell n start valid bits) } : State)

theorem closingStage_of_missing (hv : s.svc n = some v) (hp : v.ingest.state = .inPicture p)
    (hmissing : p.blocksCoded < p.stripes * p.blocksPerStripe) :
    closingStage n short s = if ((codeMissing n s).picture n).isSome then setPhase (.closing true) (codeMissing n s)
      else afterAbandonedClose n (codeMissing n s) := by
  unfold closingStage
  rw [picture_of_svc hv, picture_of_state hp]
  exact if_pos hmissing

/-- The end of a close whose last cell finds room, or that has none (R32). -/
theorem closingStage_of_end (hv : s.svc n = some v) (hp : v.ingest.state = .inPicture p)
    (hdone : p.blocksCoded = p.stripes * p.blocksPerStripe)
    (hroom : p.cell.bits = [] ∨ v.ringLength ≠ 2 ^ v.cfg.k - 1) :
    closingStage n short s = afterNormalClose (closedState s n v p short) := by
  have hwhole : ¬ p.blocksCoded < p.totalBlocks := Nat.not_lt.mpr hdone.ge
  unfold closingStage
  rw [picture_of_svc hv, picture_of_state hp]
  dsimp only
  rw [if_neg hwhole, raiseFault_if hv, closedState, closedPart, lastCellPool, lastCellQueue]
  by_cases hbits : p.cell.bits = []
  · rw [if_pos (List.isEmpty_iff.mpr hbits), if_pos hbits, if_pos hbits, normalClose_putSvc]
    dsimp only
    rw [isEmpty_raisedIf]
  · rw [if_neg (fun h => hbits (List.isEmpty_iff.mp h)), if_neg hbits, if_neg hbits,
      appendPictureCell_of_room (svc_putSvc_self ..)
        (v := { v with faults := raisedIf short v.faults .pictureShort s.frameNumber }) hp (hroom.resolve_left hbits)]
    dsimp only
    rw [appended_putSvc, appended, normalClose_putSvc]
    dsimp only [pushed, withPicture]
    rw [isEmpty_raisedIf]
    rfl

/-- The work on a tail ends with the close of its picture. -/
theorem afterNormalClose_of_tail {number : Half}
    (h : s.packer = some { record := .picTail n number, phase := .closing short }) :
    afterNormalClose s = s.recordDone := by
  rw [afterNormalClose, h]
  exact finishRecord_eq h

/-- The head that forced a close is judged next (R26). -/
theorem afterNormalClose_of_head {number : Half} {kind : PictureKind} {stripes bps c : Nat}
    (h : s.packer = some { record := .picHead n number kind stripes bps c, phase := .closing short }) :
    afterNormalClose s =
      { s with packer := some { record := .picHead n number kind stripes bps c, phase := .opening } } := by
  rw [afterNormalClose, h]
  exact setPhase_some _ h

theorem closedState_packer : (closedState s n v p short).packer = s.packer := putDrained_packer _

theorem packerStage_of_closing (h : s.packer = some { record := r, phase := .closing short }) :
    packerStage s = closingStage r.service short s := by rw [packerStage, h]

/-- The take of the tail of an open picture, and the work on it. -/
theorem exec_picTail_taken {rest : List Record} (hrest : s.atRest) (hpacker : s.packer = none)
    (hqueue : s.ingestQueue = .picTail n p.number :: rest) (hv : s.svc n = some v) (hact : v.activity ≠ .defined)
    (hp : v.ingest.state = .inPicture p) (hm : v.queue.marker = none) (hw : v.queue.withdrawal = none) (k : Nat) :
    exec (.picTail k) s = exec (.packerRecordWork k)
      { s with ingestQueue := rest, packer := some { record := .picTail n p.number, phase := .closing false } } := by
  have hrow := exec_recordRow_of_judged (r := .picTail n p.number) hrest k hpacker hqueue hv hact hw (.inl hm)
  have hvt : (taking s (.picTail n p.number) rest (v.activity == .draining)).svc n = some v := hv
  have hjudged (t : State) : judgeTail n p.number v t = setPhase (.closing false) t := by
    rw [judgeTail, hp]
    exact if_pos rfl
  rw [judgeRecord_eq (r := .picTail n p.number) hvt] at hrow
  dsimp only at hrow
  rw [hjudged, setPhase_some (w := { record := .picTail n p.number, phase := .held _ }) _ rfl] at hrow
  exact hrow.trans (exec_packerRecordWork
    (s := { s with ingestQueue := rest, packer := some { record := .picTail n p.number, phase := .closing false } })
    hrest k).symm

/-! ## A missing block -/

/-- The open picture as a missing block finds it, and the header that is written before its code: the qs stands
(R32 step 1). -/
def missingStart (s : State) (p : OpenPicture) : OpenPicture × List Bool :=
  if p.beginsStripe p.blocksCoded then (onStripe s p p.qs p.emergency, stripeHeader p.qs) else (p, [])

theorem missingStart_cell (s : State) (p : OpenPicture) : (missingStart s p).1.cell = p.cell := by
  unfold missingStart
  split <;> rfl

theorem missingStart_header_length (s : State) (p : OpenPicture) :
    (missingStart s p).2.length = if p.beginsStripe p.blocksCoded then 6 else 0 := by
  unfold missingStart
  split
  · exact length_bitsOf ..
  · rfl

theorem missing_started (hv : s.svc n = some v) (hp : v.ingest.state = .inPicture p) (hlen : p.cell.bits.length < 736)
    (h : writable s n v p (missingStart s p).2) :
    (if p.beginsStripe p.blocksCoded then beginStripe n p.qs p.emergency s else s) =
      s.written n v (missingStart s p).1 (missingStart s p).2 := by
  unfold missingStart at h ⊢
  by_cases hbegins : p.beginsStripe p.blocksCoded = true
  · rw [if_pos hbegins] at h ⊢
    rw [if_pos hbegins]
    exact beginStripe_eq hv hp _ _ h
  · rw [if_neg hbegins, if_neg hbegins]
    exact (written_nil hv hp hlen).symm

theorem leavesBits_id : LeavesBits id := fun _ _ _ _ => rfl

theorem modPicture_id (s : State) (n : Svc) : s.modPicture n id = s := by
  cases hv : s.svc n with
  | none => exact modSvc_none hv
  | some v =>
    rw [State.modPicture, State.modSvc_some s n _ v hv]
    cases hst : v.ingest.state with
    | inPicture p =>
      dsimp only
      rw [id, Service.setIngest, ← hst]
      exact putSvc_self hv
    | idle | discarding => exact putSvc_self hv

/-- A missing block coded empty, where its bits find room. -/
theorem codeMissing_eq (hv : s.svc n = some v) (hp : v.ingest.state = .inPicture p) (hlen : p.cell.bits.length < 736)
    (hroom : (p.cell.bits ++ ((missingStart s p).2 ++ [false])).length < 736 ∨ v.ringLength ≠ 2 ^ v.cfg.k - 1) :
    codeMissing n s = s.written n v (blockCounted (missingStart s p).1) ((missingStart s p).2 ++ [false]) := by
  have hwritable : writable s n v p ((missingStart s p).2 ++ [false]) := hroom.imp_right .inl
  have hstarted := missing_started hv hp hlen (writable_of_append hwritable)
  have hcell := missingStart_cell s p
  have hheader := missingStart_header_length s p
  rw [codeMissing, picture_of_svc hv, picture_of_state hp]
  dsimp only
  rw [hstarted]
  generalize missingStart s p = start at *
  obtain ⟨q, header⟩ := start
  dsimp only at *
  have hbits : (header ++ [false]).length ≤ 736 := by
    rw [List.length_append, hheader]
    split <;> decide
  have hwritable' : writable s n v (id q) (header ++ [false]) := by
    rw [writable, id, hcell]
    exact hwritable
  rcases coded_after_header leavesBits_id (hcell ▸ hlen) hbits hwritable' with
    ⟨hnone, hover⟩ | ⟨⟨cell, spent, first, hsome⟩, hcoded⟩
  · rw [hnone]
    exact hover
  · rw [modPicture_id] at hcoded
    rw [hsome]
    exact hcoded

/-- A write that overflows a full ring. -/
theorem writeBits_of_full (hv : s.svc n = some v) (hp : v.ingest.state = .inPicture p)
    (hlong : ¬ (p.cell.bits ++ bits).length < 736) (hfull : v.ringLength = 2 ^ v.cfg.k - 1) :
    writeBits n bits s = overflowed s n v p (s.abandonedState n) := by
  rw [writeBits, picture_of_svc hv, picture_of_state hp]
  dsimp only
  rw [if_neg (show ¬ (p.cell.bits ++ bits).length < Config.payloadBits from hlong), appendPictureCell_of_full hv hfull]
  exact overflow_eq hv hp

theorem abandonedState_closed_picture (s : State) (n : Svc) (q : OpenPicture) : s.abandonedState n ≠ .inPicture q := by
  unfold State.abandonedState
  split <;> exact IngestState.noConfusion

theorem overflowed_putSvc {q : OpenPicture} (o : Option Service) (st : IngestState) (hbank : q.bank = p.bank)
    (hnumber : q.number = p.number) (hfirst : q.firstCell = p.firstCell) :
    overflowed (s.putSvc n o) n (withPicture v q) q st = overflowed s n v p st := by
  have hloss : (withPicture v q).lossQueue q = v.lossQueue p := by
    unfold Service.lossQueue
    rw [hfirst, hnumber]
    rfl
  rw [overflowed, hloss, hbank]
  exact putSvc_putSvc n o _ ({ s with
    quant := s.quant.dropUser p.bank, ctlAttn := s.ctlAttn || v.faults.entries.isEmpty } : State)

/-- A missing block whose bits fill the cell of a full ring: the picture is abandoned. -/
theorem codeMissing_of_full (hv : s.svc n = some v) (hp : v.ingest.state = .inPicture p)
    (hlong : ¬ (p.cell.bits ++ ((missingStart s p).2 ++ [false])).length < 736) (hfull : v.ringLength = 2 ^ v.cfg.k - 1) :
    codeMissing n s = overflowed s n v p (s.abandonedState n) := by
  have hclosed (t : State) (q : OpenPicture) (w : Service) :
      (overflowed t n w q (s.abandonedState n)).picture n = none :=
    overflowed_picture _ (abandonedState_closed_picture s n)
  rw [codeMissing, picture_of_svc hv, picture_of_state hp]
  dsimp only
  unfold missingStart at hlong
  by_cases hbegins : p.beginsStripe p.blocksCoded = true
  · rw [if_pos hbegins] at hlong ⊢
    have hbegin : beginStripe n p.qs p.emergency s = writeBits n (stripeHeader p.qs)
        (s.putSvc n (some (withPicture v (onStripe s p p.qs p.emergency)))) := by
      rw [beginStripe, modPicture_eq hv hp]
      rfl
    generalize hq : onStripe s p p.qs p.emergency = q at *
    obtain ⟨hcell, hbank, hnumber, hfirst⟩ : q.cell = p.cell ∧ q.bank = p.bank ∧ q.number = p.number ∧
        q.firstCell = p.firstCell := by
      rw [← hq]
      exact ⟨rfl, rfl, rfl, rfl⟩
    by_cases hshort : (q.cell.bits ++ stripeHeader p.qs).length < 736
    · have hlong' : ¬ ((filling q (stripeHeader p.qs)).cell.bits ++ blockCode []).length < 736 := by
        rw [filling, List.append_assoc, hcell]
        exact hlong
      have hover := writeBits_of_full (s := s.putSvc n (some (withPicture v (filling q (stripeHeader p.qs)))))
        (svc_putSvc_self ..) (withPicture_state ..) hlong' hfull
      rw [overflowed_putSvc (p := p) (q := filling q (stripeHeader p.qs)) (some _) _ hbank hnumber hfirst] at hover
      rw [hbegin, writeBits_eq (svc_putSvc_self ..) (withPicture_state ..) (.inl hshort), written_putSvc,
        written_of_short hshort, picture_of_svc (svc_putSvc_self ..), picture_of_state (withPicture_state ..)]
      dsimp only
      rw [hover]
      exact modPicture_of_none (hclosed ..) _
    · rw [hbegin, writeBits_of_full (svc_putSvc_self ..) (withPicture_state ..) hshort hfull,
        overflowed_putSvc (p := p) (q := q) (some _) _ hbank hnumber hfirst]
      rw [show (overflowed s n v p ((s.putSvc n (some (withPicture v q))).abandonedState n)).picture n = none from
        hclosed ..]
      rfl
  · rw [if_neg hbegins] at hlong ⊢
    rw [picture_of_svc hv, picture_of_state hp]
    dsimp only
    rw [writeBits_of_full (bits := blockCode []) hv hp hlong hfull, modPicture_of_none (hclosed _ _ _)]

/-! ## What follows an abandoned close (R33, R86) -/

theorem overflowed_withdrawing (st : IngestState) (hw : v.queue.withdrawal = none) :
    (overflowed s n v p st).withdrawing n = decide (p.firstCell ≠ .unwritten) := by
  rw [overflowed, withdrawing_of_svc (svc_putSvc_self ..)]
  dsimp only
  unfold Service.lossQueue
  by_cases hfirst : p.firstCell = .unwritten
  · rw [if_pos hfirst, hw]
    simp [hfirst]
  · rw [if_neg hfirst]
    simp [hfirst]

theorem afterAbandonedClose_of_tail {number : Half}
    (h : s.packer = some { record := .picTail n number, phase := .closing short }) :
    afterAbandonedClose n s = s.recordDone := by
  rw [afterAbandonedClose, h]
  exact finishRecord_eq h

theorem afterAbandonedClose_of_head {number : Half} {kind : PictureKind} {stripes bps c : Nat}
    (h : s.packer = some { record := .picHead n number kind stripes bps c, phase := .closing short }) :
    afterAbandonedClose n s =
      { s with
        packer := some
          { record := .picHead n number kind stripes bps c
            phase := if s.withdrawing n then .held false else .opening } } := by
  rw [afterAbandonedClose, h]
  exact setPhase_some _ h

/-- A close that meets a full ring with its last cell (R85). -/
theorem closingStage_of_full (hv : s.svc n = some v) (hp : v.ingest.state = .inPicture p)
    (hdone : p.blocksCoded = p.stripes * p.blocksPerStripe) (hbits : p.cell.bits ≠ [])
    (hfull : v.ringLength = 2 ^ v.cfg.k - 1) :
    closingStage n short s = afterAbandonedClose n (overflowed
      ({ s with ctlAttn := s.ctlAttn || (short && v.faults.entries.isEmpty) } : State) n
      { v with faults := raisedIf short v.faults .pictureShort s.frameNumber } p (s.abandonedState n)) := by
  have hwhole : ¬ p.blocksCoded < p.totalBlocks := Nat.not_lt.mpr hdone.ge
  unfold closingStage
  rw [picture_of_svc hv, picture_of_state hp]
  dsimp only
  rw [if_neg hwhole, raiseFault_if hv, if_neg (fun h => hbits (List.isEmpty_iff.mp h)),
    appendPictureCell_of_full (svc_putSvc_self ..)
      (v := { v with faults := raisedIf short v.faults .pictureShort s.frameNumber }) hfull]
  dsimp only
  rw [overflow_eq (svc_putSvc_self ..)
    (v := { v with faults := raisedIf short v.faults .pictureShort s.frameNumber }) hp]
  exact congrArg (afterAbandonedClose n) (putSvc_putSvc n _ _ ({ s with
    quant := s.quant.dropUser p.bank
    ctlAttn := s.ctlAttn || (short && v.faults.entries.isEmpty) ||
      (raisedIf short v.faults .pictureShort s.frameNumber).entries.isEmpty } : State))

end Sys2Proof.Proofs
end


section
/-! PROOF. The rows that close a picture (R26, R32, R33, R43, R71, R78, R83 to R87). -/

namespace Sys2Proof.Proofs
open Sys2Proof.Machine

variable {s t : State} {n : Svc} {v : Service} {p : OpenPicture} {r : Record} {short : Bool}

theorem closedState_held (work : Option PackerWork) (queue : List Record) :
    closedState ({ s with packer := work, ingestQueue := queue } : State) n v p short =
      { closedState s n v p short with packer := work, ingestQueue := queue } :=
  putDrained_held (s := closedPart s n v p short) work queue _

/-- A stage that closes a picture by its own tail ends the work on the tail. -/
theorem exec_closed_by_tail {number : Half} (hrest : s.atRest) (hv : s.svc n = some v)
    (hp : v.ingest.state = .inPicture p) (hdone : p.blocksCoded = p.stripes * p.blocksPerStripe)
    (hroom : p.cell.bits = [] ∨ v.ringLength ≠ 2 ^ v.cfg.k - 1)
    (hwork : s.packer = some { record := .picTail n number, phase := .closing short }) (k : Nat) :
    exec (.packerRecordWork (k + 1)) s = .next (closedState s n v p short).recordDone := by
  have hstage : packerStage s = afterNormalClose (closedState s n v p short) :=
    (packerStage_of_closing hwork).trans (closingStage_of_end hv hp hdone hroom)
  rw [afterNormalClose_of_tail (closedState_packer.trans hwork)] at hstage
  rw [exec_packerRecordWork hrest, runStages_of_done k hstage rfl]

theorem exec_closed_by_head {number : Half} {kind : PictureKind} {stripes bps c : Nat} (hrest : s.atRest)
    (hv : s.svc n = some v) (hp : v.ingest.state = .inPicture p) (hdone : p.blocksCoded = p.stripes * p.blocksPerStripe)
    (hroom : p.cell.bits = [] ∨ v.ringLength ≠ 2 ^ v.cfg.k - 1)
    (hwork : s.packer = some { record := .picHead n number kind stripes bps c, phase := .closing short }) :
    exec (.packerRecordWork 1) s = .next
      { closedState s n v p short with
        packer := some { record := .picHead n number kind stripes bps c, phase := .opening } } := by
  have hstage : packerStage s = afterNormalClose (closedState s n v p short) :=
    (packerStage_of_closing hwork).trans (closingStage_of_end hv hp hdone hroom)
  rw [afterNormalClose_of_head (closedState_packer.trans hwork)] at hstage
  rw [exec_packerRecordWork hrest]
  exact congrArg _ hstage

/-- A stage that codes a missing block empty goes on with the close. -/
theorem exec_missing (hrest : s.atRest) (hr : r.service = n) (hv : s.svc n = some v) (hp : v.ingest.state = .inPicture p)
    (hmissing : p.blocksCoded < p.stripes * p.blocksPerStripe) (hlen : p.cell.bits.length < 736)
    (hroom : (p.cell.bits ++ ((missingStart s p).2 ++ [false])).length < 736 ∨ v.ringLength ≠ 2 ^ v.cfg.k - 1)
    (hwork : s.packer = some { record := r, phase := .closing short }) :
    exec (.packerRecordWork 1) s = .next
      { s.written n v (blockCounted (missingStart s p).1) ((missingStart s p).2 ++ [false]) with
        packer := some { record := r, phase := .closing true } } := by
  subst hr
  have hroom' : ((blockCounted (missingStart s p).1).cell.bits ++ ((missingStart s p).2 ++ [false])).length < 736 ∨
      v.ringLength ≠ 2 ^ v.cfg.k - 1 := by
    rw [show (blockCounted (missingStart s p).1).cell = p.cell from missingStart_cell s p]
    exact hroom
  obtain ⟨cell, spent, first, hpic⟩ := written_picture (s := s) (n := r.service) hroom'
  have hstage := (packerStage_of_closing hwork).trans (closingStage_of_missing hv hp hmissing)
  rw [codeMissing_eq hv hp hlen hroom, hpic, if_pos (show (some _).isSome = true from rfl),
    setPhase_some _ (written_packer.trans hwork)] at hstage
  rw [exec_packerRecordWork hrest]
  exact congrArg _ hstage

/-- Settles O36: the end of the close, a missing block, and the take of the tail. -/
theorem picTailClosesThePicture : Obligations.PicTailClosesThePicture := by
  refine ⟨?closes, ?missing, fun s n v p rest k hrest hpacker hqueue hv hact hp hm hw =>
    exec_picTail_taken hrest hpacker hqueue hv hact hp hm hw k⟩
  case closes =>
    intro s n v p short hrest hv hact hp hw hdone hroom faults1 kept closed
    have hclosed : closedState s n v p short = closed s.ingestQueue := by
      simp only [closed, kept, closedState, closedPart, lastCellPool, lastCellQueue]
      rfl
    refine ⟨fun rest k hshort hm hpacker hqueue => ?_, fun number k hwork => ?_, fun number kind stripes bps c hwork => ?_⟩
    · subst hshort
      rw [exec_picTail_taken hrest hpacker hqueue hv hact hp hm hw]
      have hrow := exec_closed_by_tail (short := false) (n := n) (v := v) (p := p) (number := p.number) (s := { s with
        ingestQueue := rest, packer := some { record := .picTail n p.number, phase := .closing false } })
        hrest hv hp hdone hroom rfl k
      have hqueued : closed rest = { closed s.ingestQueue with packer := s.packer, ingestQueue := rest } :=
        putDrained_held (s := kept s.ingestQueue) s.packer rest _
      rw [hrow, closedState_held, hclosed, hqueued]
      rfl
    · rw [exec_closed_by_tail hrest hv hp hdone hroom hwork k, hclosed]
    · rw [exec_closed_by_head hrest hv hp hdone hroom hwork, hclosed]
  case missing =>
    intro s n v p r short hrest hv hact hp hmissing hlen hr hwork begins table bits hfits pic
    have htable : (s.quant.bank p.bank).table p.kind = table := by
      simp only [table]
      cases p.bank <;> cases p.kind <;> rfl
    have hstart : missingStart s p = ({ p with
        qsSum := if begins then p.qsSum + p.qs else p.qsSum
        steps := if begins then table.toList.map fun w => max 1 ((p.qs * w.toNat + 8) / 16) else p.steps },
        if begins then bitsOf 6 p.qs else []) := by
      unfold missingStart
      by_cases hbegins : begins
      · rw [if_pos ((beginsStripe_iff p).mpr hbegins), onStripe, htable]
        simp only [if_pos hbegins]
        rfl
      · rw [if_neg fun h => hbegins ((beginsStripe_iff p).mp h)]
        simp only [if_neg hbegins]
    have hrow := exec_missing hrest hr hv hp hmissing hlen
      (by rw [hstart, List.length_append]; exact hfits) hwork
    rw [hstart] at hrow
    exact hrow

/-! ## A close that meets a full ring -/

theorem exec_abandoned_by_tail {number : Half} (hrest : s.atRest)
    (hwork : s.packer = some { record := .picTail n number, phase := .closing short })
    (h : closingStage n short s = afterAbandonedClose n t) (ht : t.packer = s.packer) (k : Nat) :
    exec (.packerRecordWork (k + 1)) s = .next t.recordDone := by
  have hstage := (packerStage_of_closing hwork).trans h
  rw [afterAbandonedClose_of_tail (ht.trans hwork)] at hstage
  rw [exec_packerRecordWork hrest, runStages_of_done k hstage rfl]

theorem exec_abandoned_by_head {number : Half} {kind : PictureKind} {stripes bps c : Nat} (hrest : s.atRest)
    (hwork : s.packer = some { record := .picHead n number kind stripes bps c, phase := .closing short })
    (h : closingStage n short s = afterAbandonedClose n t) (ht : t.packer = s.packer)
    (hw : t.withdrawing n = decide (p.firstCell ≠ .unwritten)) :
    exec (.packerRecordWork 1) s = .next
      { t with
        packer := some
          { record := .picHead n number kind stripes bps c
            phase := if p.firstCell = .unwritten then .opening else .held false } } := by
  have hstage := (packerStage_of_closing hwork).trans h
  have hphase : (if t.withdrawing n then .held false else .opening : WorkPhase) =
      if p.firstCell = .unwritten then .opening else .held false := by
    rw [hw]
    by_cases hfirst : p.firstCell = .unwritten <;> simp [hfirst]
  rw [afterAbandonedClose_of_head (ht.trans hwork), hphase] at hstage
  rw [exec_packerRecordWork hrest]
  exact congrArg _ hstage

/-- What a close that meets a full ring leaves, before what follows it: the fault of the missing blocks is raised only
where all of them were coded. -/
def brokenClose (s : State) (n : Svc) (v : Service) (p : OpenPicture) (told : Bool) (st : IngestState) : State :=
  ({ s with quant := s.quant.dropUser p.bank, ctlAttn := s.ctlAttn || v.faults.entries.isEmpty } : State).putSvc n (some
    { v with
      queue := v.lossQueue p
      ingest := { v.ingest with state := st }
      faults := (raisedIf told v.faults .pictureShort s.frameNumber).raise .queueOverflow s.frameNumber })

theorem overflowed_told (told : Bool) (st : IngestState) :
    overflowed ({ s with ctlAttn := s.ctlAttn || (told && v.faults.entries.isEmpty) } : State) n
      { v with faults := raisedIf told v.faults .pictureShort s.frameNumber } p st = brokenClose s n v p told st := by
  have hattn := isEmpty_raisedIf told true s.ctlAttn v.faults .pictureShort s.frameNumber
  rw [Bool.true_and, Bool.or_true, Bool.true_and] at hattn
  rw [overflowed]
  dsimp only
  rw [hattn]
  rfl

theorem brokenClose_withdrawing (told : Bool) (st : IngestState) (hw : v.queue.withdrawal = none) :
    (brokenClose s n v p told st).withdrawing n = decide (p.firstCell ≠ .unwritten) := by
  rw [← overflowed_told]
  exact overflowed_withdrawing st hw

/-- A close that meets a full ring, with the last cell or with a missing block's. -/
theorem closingStage_of_broken (hv : s.svc n = some v) (hp : v.ingest.state = .inPicture p)
    (hfull : v.ringLength = 2 ^ v.cfg.k - 1) {told : Bool}
    (h : (p.blocksCoded = p.stripes * p.blocksPerStripe ∧ p.cell.bits ≠ [] ∧ told = short) ∨
      (p.blocksCoded < p.stripes * p.blocksPerStripe ∧ told = false ∧
        ¬ (p.cell.bits ++ ((missingStart s p).2 ++ [false])).length < 736)) :
    closingStage n short s = afterAbandonedClose n (brokenClose s n v p told (s.abandonedState n)) := by
  rcases h with ⟨hdone, hbits, rfl⟩ | ⟨hmissing, rfl, hlong⟩
  · rw [closingStage_of_full hv hp hdone hbits hfull, overflowed_told]
  · rw [closingStage_of_missing hv hp hmissing, codeMissing_of_full hv hp hlong hfull,
      overflowed_picture _ (abandonedState_closed_picture s n)]
    rfl

/-- Settles O37: the end of the close and a missing block that find the ring full, by the record that closes. -/
theorem picTailOverflowsAFullRing : Obligations.PicTailOverflowsAFullRing := by
  intro s n v p short k hrest hv hp hw hfull begins whole missing faults left
  have hlong : missing → ¬ (p.cell.bits ++ ((missingStart s p).2 ++ [false])).length < 736 := by
    rintro ⟨-, hlen⟩
    have hheader := missingStart_header_length s p
    have hiff := beginsStripe_iff p
    rw [List.length_append, List.length_append, hheader, List.length_singleton]
    by_cases hbegins : begins
    · rw [if_pos (hiff.mpr hbegins)]
      rw [if_pos hbegins] at hlen
      omega
    · rw [if_neg (mt hiff.mp hbegins)]
      rw [if_neg hbegins] at hlen
      omega
  let told : Bool := short && decide whole
  have hleft (st : IngestState) : brokenClose s n v p told st = left s.ingestQueue st := by
    have htold : raisedIf told v.faults .pictureShort s.frameNumber = faults := by
      simp only [raisedIf, told, faults, Bool.and_eq_true, decide_eq_true_eq]
    rw [brokenClose, htold]
  have hclosing {t : State} (hvt : t.svc n = some v) (hquant : t.quant = s.quant) (h : whole ∨ missing) :
      closingStage n short t = afterAbandonedClose n (brokenClose t n v p told (t.abandonedState n)) := by
    refine closingStage_of_broken hvt hp hfull (h.imp (fun hwhole => ⟨hwhole.1, hwhole.2, ?_⟩)
      (fun hmissing => ⟨hmissing.1, ?_, ?_⟩))
    · simp only [told, decide_eq_true hwhole, Bool.and_true]
    · have hpart : ¬ whole := fun hwhole => absurd hwhole.1 hmissing.1.ne
      simp only [told, decide_eq_false hpart, Bool.and_false]
    · have hsame : missingStart t p = missingStart s p := by unfold missingStart onStripe; rw [hquant]
      rw [hsame]
      exact hlong hmissing
  refine ⟨fun hwhole rest hshort hact hm hpacker hqueue => ?taken, fun h => ⟨fun number hwork => ?tail,
    fun number kind stripes bps c hwork => ?head⟩⟩
  case taken =>
    rw [exec_picTail_taken hrest hpacker hqueue hv hact hp hm hw]
    generalize ht : ({ s with
      ingestQueue := rest, packer := some { record := .picTail n p.number, phase := .closing false } } : State) = t
    have hwork : t.packer = some { record := .picTail n p.number, phase := .closing false } := by rw [← ht]
    have hst : t.abandonedState n = .idle := abandonedState_of_tail (by rw [hwork]; rfl)
    have hstage := hclosing (t := t) (by rw [← ht]; exact hv) (by rw [← ht]) (.inl hwhole)
    rw [hshort, hst] at hstage
    rw [exec_abandoned_by_tail (by rw [← ht]; exact hrest) hwork hstage rfl k]
    have hdone : (brokenClose t n v p told .idle).recordDone =
        ({ brokenClose s n v p told .idle with ingestQueue := rest } : State).recordDone := by
      rw [← ht]
      rfl
    rw [hdone, hleft]
    rfl
  case tail =>
    have hst : s.abandonedState n = .idle := abandonedState_of_tail (by rw [hwork]; rfl)
    rw [exec_abandoned_by_tail hrest hwork (hclosing hv rfl h) rfl k, hst, hleft]
  case head =>
    have hst : s.abandonedState n = .discarding := abandonedState_of_no_tail (by rw [hwork]; exact id)
    rw [exec_abandoned_by_head (p := p) hrest hwork (hclosing hv rfl h) rfl (brokenClose_withdrawing _ _ hw), hst, hleft]

end Sys2Proof.Proofs
end


section
/-! PROOF. A PIC_HEAD (R26, R28, R42, R54, R60 to R64, R82, R89, R91, R102). -/

namespace Sys2Proof.Proofs
open Sys2Proof.Machine

variable {s t : State} {n : Svc} {v : Service} {p : OpenPicture} {m : Marker} {rest : List Record}
  {number : Half} {kind : PictureKind} {stripes bps c : Nat}

/-! ## The picture a head opens -/

/-- The picture target by `max` and `min` (R62). -/
theorem pictureTarget_eq (grant : Nat) (kind : PictureKind) (queued stripes bps : Nat) :
    pictureTarget grant kind queued stripes bps =
      (max ((max (targetBase grant kind / 4) (minPictureBits stripes bps) : Nat) : Int)
        (min ((max (2 * targetBase grant kind) (minPictureBits stripes bps) : Nat) : Int)
          (rawTarget grant kind queued))).toNat := by
  unfold pictureTarget
  dsimp only
  split_ifs <;> omega

/-- The initial qs by `max` and `min` (R63). -/
theorem initialQs_eq {qmin qmax : Nat} (h : qmin ≤ qmax) (stats : Option Stats) (qinit target : Nat) :
    initialQs stats qinit qmin qmax target = max qmin (min qmax (match stats with
      | some st => (st.qavgPrev * st.bitsPrev + target / 2) / target
      | none => qinit)) := by
  rw [← clampNat_eq h]
  cases stats <;> rfl

/-- The headers of a picture whose first stripe has a qs (R54). -/
def headers (number : Half) (kind : PictureKind) (bank : Bank) (stripes bps qs : Nat) : List Bool :=
  pictureHeader number kind bank stripes bps ++ stripeHeader qs

theorem headers_eq (number : Half) (kind : PictureKind) (bank : Bank) (stripes bps qs : Nat) :
    headers number kind bank stripes bps qs =
      bitsOf 16 number.toNat ++ [kind == .predicted, bank == .one] ++ bitsOf 7 stripes ++ bitsOf 7 bps ++ bitsOf 6 qs := by
  have hkind : bitsOf 1 kind.bit = [kind == .predicted] := by cases kind <;> rfl
  have hbank : bitsOf 1 bank.bit = [bank == .one] := by cases bank <;> rfl
  rw [headers, pictureHeader, stripeHeader, hkind, hbank]
  simp only [List.append_assoc, List.cons_append, List.nil_append]

/-! ## The open -/

/-- A service that takes a picture up: its complexity handed over, and RUNNING if it was STALLED (R28). -/
def takenUp (v : Service) (c : Nat) : Service :=
  { v with
    activity := if v.activity = .stalled then .running else v.activity
    alloc := { v.alloc with complexity := max 1 c } }

theorem run_putSvc (s : State) (n : Svc) (v : Service) :
    ((s.putSvc n (some v)).modSvc n fun v => if v.activity = .stalled then { v with activity := .running } else v) =
      s.putSvc n (some { v with activity := if v.activity = .stalled then .running else v.activity }) := by
  rw [modSvc_putSvc]
  by_cases h : v.activity = .stalled
  · rw [if_pos h, if_pos h]
  · rw [if_neg h, if_neg h]

/-- The state as a head's picture is about to be written: its bank user is counted, its complexity handed over. -/
def beforeOpen (s : State) (n : Svc) (v : Service) (pic : OpenPicture) (c : Nat) : State :=
  ({ s with quant := s.quant.addUser s.quant.active } : State).putSvc n (some
    (withPicture { v with alloc := { v.alloc with complexity := max 1 c } } pic))

/-- The open of a picture where the marker test appends nothing. -/
theorem openPicture_of_tested (hv : s.svc n = some v) (hm : v.queue.marker = none ∨ v.ringLength = 2 ^ v.cfg.k - 1) :
    openPicture n number kind stripes bps c s =
      (if v.queue.marker.isSome then overflow n (beforeOpen s n v (newPicture s v number kind stripes bps) c)
        else writeBits n (headers number kind s.quant.active stripes bps (newPicture s v number kind stripes bps).qs)
          (beforeOpen s n v (newPicture s v number kind stripes bps) c)).modSvc n fun v =>
            if v.activity = .stalled then { v with activity := .running } else v := by
  let w : Service := { v with alloc := { v.alloc with complexity := max 1 c } }
  have htested : markerTest n (({ s with quant := s.quant.addUser s.quant.active } : State).putSvc n (some w)) =
      ({ s with quant := s.quant.addUser s.quant.active } : State).putSvc n (some w) :=
    markerTest_of_not_room (svc_putSvc_self ..) (hm.imp_right (ringFull_iff v).mpr)
  rw [openPicture, hv]
  dsimp only
  rw [State.modSvc_some ({ s with quant := s.quant.addUser s.quant.active } : State) n _ v hv, htested, modSvc_putSvc,
    State.markerPending, svc_putSvc_self]
  rfl

/-- A head's picture opened (R28). -/
theorem openPicture_of_free (hv : s.svc n = some v) (hm : v.queue.marker = none) :
    openPicture n number kind stripes bps c s =
      ({ s with quant := s.quant.addUser s.quant.active } : State).putSvc n (some (withPicture (takenUp v c)
        (filling (newPicture s v number kind stripes bps)
          (headers number kind s.quant.active stripes bps (newPicture s v number kind stripes bps).qs)))) := by
  have hshort : ((newPicture s v number kind stripes bps).cell.bits ++
      headers number kind s.quant.active stripes bps (newPicture s v number kind stripes bps).qs).length < 736 := by
    rw [headers, List.length_append, length_headers]
    exact (by decide : 0 + 38 < 736)
  rw [openPicture_of_tested hv (.inl hm), hm, if_neg (by decide), beforeOpen,
    writeBits_eq (svc_putSvc_self ..) (withPicture_state ..) (.inl hshort), written_putSvc, written_of_short hshort,
    run_putSvc]
  rfl

theorem dropUser_addUser (q : Quantizer) (b : Bank) : (q.addUser b).dropUser b = q := by cases b <;> rfl

/-- A head that finds a marker pending and the ring full is abandoned at its open (R91). -/
theorem openPicture_of_blocked (hv : s.svc n = some v) (hm : v.queue.marker = some m)
    (hfull : v.ringLength = 2 ^ v.cfg.k - 1) (hst : s.abandonedState n = .discarding) :
    openPicture n number kind stripes bps c s =
      ({ s with ctlAttn := s.ctlAttn || v.faults.entries.isEmpty } : State).putSvc n (some
        { takenUp v c with
          queue := { v.queue with marker := some { m with count := min 255 (m.count + 1) } }
          ingest := { v.ingest with state := .discarding }
          faults := v.faults.raise .queueOverflow s.frameNumber }) := by
  let w : Service := { v with alloc := { v.alloc with complexity := max 1 c } }
  let pic := newPicture s v number kind stripes bps
  have hover : overflow n (beforeOpen s n v pic c) =
      overflowed ({ s with quant := s.quant.addUser s.quant.active } : State) n w pic .discarding := by
    rw [beforeOpen, overflow_eq (svc_putSvc_self ..) (withPicture_state ..), ← hst]
    exact overflowed_putSvc (v := w) _ _ rfl rfl rfl
  have hloss : w.lossQueue pic = { v.queue with marker := some { m with count := min 255 (m.count + 1) } } := by
    rw [Service.lossQueue, if_pos (show pic.firstCell = .unwritten from rfl), show w.queue = v.queue from rfl, hm]
  have hquant : (s.quant.addUser s.quant.active).dropUser pic.bank = s.quant := dropUser_addUser _ _
  rw [openPicture_of_tested hv (.inr hfull), hm, if_pos (show (some m).isSome = true from rfl), hover, overflowed,
    hloss, run_putSvc]
  dsimp only
  rw [hquant]
  rfl

/-! ## The rows -/

/-- A head about to open its picture, of a service that is a participant without an open picture, with no withdrawal in
flight. -/
theorem openingStage_of_fits (hv : s.svc n = some v) (hact : v.activity ≠ .defined) (hw : v.queue.withdrawal = none)
    (hpic : v.picture = none) (hfits : headFits stripes bps) :
    openingStage (.picHead n number kind stripes bps c) s = (openPicture n number kind stripes bps c s).finishRecord := by
  unfold openingStage
  rw [show s.svc (Record.service (.picHead n number kind stripes bps c)) = some v from hv]
  dsimp only
  rw [(participant_iff v).mpr hact, withdrawing_of_svc hv, hw]
  cases hst : v.ingest.state with
  | inPicture p => exact nomatch (picture_of_state hst).symm.trans hpic
  | idle | discarding => simp only [if_pos hfits]; rfl

/-- The stage that opens a head's picture ends the work on the head. -/
theorem exec_opening (hrest : s.atRest)
    (hwork : s.packer = some { record := .picHead n number kind stripes bps c, phase := .opening })
    (hv : s.svc n = some v) (hact : v.activity ≠ .defined) (hw : v.queue.withdrawal = none) (hpic : v.picture = none)
    (hfits : headFits stripes bps) (hopen : openPicture n number kind stripes bps c s = t) (ht : t.packer = s.packer)
    (k : Nat) : exec (.packerRecordWork (k + 1)) s = .next t.recordDone := by
  have hstage := (packerStage_of_opening hwork).trans (openingStage_of_fits hv hact hw hpic hfits)
  rw [hopen, finishRecord_eq (ht.trans hwork)] at hstage
  rw [exec_packerRecordWork hrest, runStages_of_done k hstage rfl]

/-- The take of a head that finds no picture open: it opens one in the next stage. -/
theorem exec_picHead_opening (hrest : s.atRest) (hpacker : s.packer = none)
    (hqueue : s.ingestQueue = .picHead n number kind stripes bps c :: rest) (hv : s.svc n = some v)
    (hact : v.activity ≠ .defined) (hdraining : v.activity ≠ .draining) (hw : v.queue.withdrawal = none)
    (hm : v.queue.marker = none ∨ v.ringLength = 2 ^ v.cfg.k - 1) (hpic : v.picture = none)
    (hfits : headFits stripes bps) (k : Nat) :
    exec (.picHead k) s = exec (.packerRecordWork k)
      { s with
        ingestQueue := rest
        packer := some { record := .picHead n number kind stripes bps c, phase := .opening } } := by
  have hrow := exec_recordRow_of_judged (r := .picHead n number kind stripes bps c) hrest k hpacker hqueue hv hact hw hm
  have hvt : (taking s (.picHead n number kind stripes bps c) rest (v.activity == .draining)).svc n = some v := hv
  rw [judgeRecord_eq (r := .picHead n number kind stripes bps c) hvt, beq_eq_false_iff_ne.mpr hdraining] at hrow
  dsimp only at hrow
  rw [judgeHead_of_closed hpic, if_pos hfits, setPhase_some
    (w := { record := .picHead n number kind stripes bps c, phase := .held false }) _ rfl] at hrow
  exact hrow.trans (exec_packerRecordWork (s := { s with
    ingestQueue := rest, packer := some { record := .picHead n number kind stripes bps c, phase := .opening } })
    hrest k).symm

/-- The take of a head that finds a picture open: the close is forced (R26). -/
theorem exec_picHead_forced (hrest : s.atRest) (hpacker : s.packer = none)
    (hqueue : s.ingestQueue = .picHead n number kind stripes bps c :: rest) (hv : s.svc n = some v)
    (hact : v.activity ≠ .defined) (hdraining : v.activity ≠ .draining) (hw : v.queue.withdrawal = none)
    (hm : v.queue.marker = none) (hp : v.ingest.state = .inPicture p) (k : Nat) :
    exec (.picHead k) s = exec (.packerRecordWork k)
      (({ s with
        ingestQueue := rest
        packer := some { record := .picHead n number kind stripes bps c, phase := .closing false }
        ctlAttn := s.ctlAttn || v.faults.entries.isEmpty } : State).putSvc n (some
          { v with faults := v.faults.raise .pictureUnclosed s.frameNumber })) := by
  have hrow := exec_recordRow_of_judged (r := .picHead n number kind stripes bps c) hrest k hpacker hqueue hv hact hw
    (.inl hm)
  have hvt : (taking s (.picHead n number kind stripes bps c) rest (v.activity == .draining)).svc n = some v := hv
  have hjudged (t : State) : judgeHead n stripes bps false v t = forceClose n t := by
    rw [judgeHead, if_neg Bool.false_ne_true, hp]
  rw [beq_eq_false_iff_ne.mpr hdraining] at hvt hrow
  rw [judgeRecord_eq (r := .picHead n number kind stripes bps c) hvt] at hrow
  dsimp only at hrow
  rw [hjudged, forceClose, raiseFault_eq hvt, setPhase_some
    (w := { record := .picHead n number kind stripes bps c, phase := .held false }) _ rfl] at hrow
  exact hrow.trans (exec_packerRecordWork
    (s := ({ s with
        ingestQueue := rest
        packer := some { record := .picHead n number kind stripes bps c, phase := .closing false }
        ctlAttn := s.ctlAttn || v.faults.entries.isEmpty } : State).putSvc n (some
          { v with faults := v.faults.raise .pictureUnclosed s.frameNumber })) hrest k).symm

/-- Settles O33: the open, the forced close, the open that a blocked marker ends, and the marker that goes first. -/
theorem picHeadOpensAPicture : Obligations.PicHeadOpensAPicture := by
  refine ⟨?opens, fun s n number kind stripes bps c k rest v p => ?forced,
    fun s n number kind stripes bps c k rest v m hrest hpacker hqueue hv hact hpic hm hw hfull hs1 hs2 hb1 hb2 => ?blocked,
    fun s n r k rest v m hrest hpacker hqueue hn hv hact hm hw hroom => ?gap⟩
  case opens =>
    intro s n number kind stripes bps c k v head hrest hv hact hpic hm hw hs1 hs2 hb1 hb2 hq grant base bmin raw target q
      qs table pic opened
    have htarget : (newPicture s v number kind stripes bps).target = target := pictureTarget_eq ..
    have hqs : (newPicture s v number kind stripes bps).qs = qs := by
      refine (initialQs_eq hq ..).trans ?_
      rw [show pictureTarget (pictureGrant s v) kind v.ringLength stripes bps = target from htarget]
        <;> rfl
    have htable : (s.quant.bank s.quant.active).table kind = table := by
      simp only [table]
      cases s.quant.active <;> cases kind <;> rfl
    have hnew : newPicture s v number kind stripes bps =
        { pic with
          steps := stripeSteps ((s.quant.bank s.quant.active).table kind) qs, bitsSpent := 0
          cell := { start := true, bits := [] } } := by
      simp only [pic]
      rw [← hqs, ← htarget]
      rfl
    have hfilled : filling (newPicture s v number kind stripes bps)
        (headers number kind s.quant.active stripes bps (newPicture s v number kind stripes bps).qs) = pic := by
      have hlen : (headers number kind s.quant.active stripes bps qs).length = 38 := length_headers ..
      rw [hqs, hnew, filling, hlen, headers_eq, htable]
      rfl
    have hquant : s.quant.addUser s.quant.active = (match s.quant.active with
        | .zero => { s.quant with users0 := s.quant.users0 + 1 }
        | .one => { s.quant with users1 := s.quant.users1 + 1 } : Quantizer) := by
      cases s.quant.active <;> rfl
    have hopen (work : Option PackerWork) (queue : List Record) :
        openPicture n number kind stripes bps c { s with packer := work, ingestQueue := queue } =
          ({ s with
            packer := work, ingestQueue := queue
            quant := s.quant.addUser s.quant.active } : State).putSvc n (some (withPicture (takenUp v c) pic)) := by
      rw [← hfilled]
      exact openPicture_of_free (s := { s with packer := work, ingestQueue := queue }) hv hm
    have hfits : headFits stripes bps := ⟨hs1, hs2, hb1, hb2⟩
    have hopened (work : Option PackerWork) (queue : List Record) :
        (({ s with
          packer := work, ingestQueue := queue
          quant := s.quant.addUser s.quant.active } : State).putSvc n
            (some (withPicture (takenUp v c) pic))).recordDone = opened queue := by
      rw [hquant]
      rfl
    refine ⟨fun rest hdraining hpacker hqueue => ?_, fun hwork => ?_⟩
    · rw [exec_picHead_opening hrest hpacker hqueue hv hact hdraining hw (.inl hm) hpic hfits,
        ← hopened (some { record := head, phase := .opening }) rest]
      exact exec_opening (s := { s with
        ingestQueue := rest, packer := some { record := head, phase := .opening } }) hrest rfl hv hact hw hpic hfits
        (hopen _ _) rfl k
    · rw [← hopened s.packer s.ingestQueue]
      exact exec_opening hrest hwork hv hact hw hpic hfits (hopen _ _) rfl k
  case forced =>
    intro head hrest hpacker hqueue hv hact hp hm hw
    refine exec_picHead_forced hrest hpacker hqueue hv ?_ ?_ hw hm hp k
    all_goals rcases hact with hact | hact <;> rw [hact] <;> exact Activity.noConfusion
  case blocked =>
    have hactive : v.activity ≠ .defined ∧ v.activity ≠ .draining := by
      rcases hact with hact | hact <;> rw [hact] <;> exact ⟨Activity.noConfusion, Activity.noConfusion⟩
    have hfits : headFits stripes bps := ⟨hs1, hs2, hb1, hb2⟩
    have hrun : (if v.activity = .stalled then .running else v.activity : Activity) = .running := by
      rcases hact with hact | hact <;> rw [hact] <;> rfl
    rw [exec_picHead_opening hrest hpacker hqueue hv hactive.1 hactive.2 hw (.inr hfull) hpic hfits]
    generalize ht : ({ s with
      ingestQueue := rest
      packer := some { record := .picHead n number kind stripes bps c, phase := .opening } } : State) = t
    have hwork : t.packer = some { record := .picHead n number kind stripes bps c, phase := .opening } := by rw [← ht]
    have hvt : t.svc n = some v := by rw [← ht]; exact hv
    have hst : t.abandonedState n = .discarding := abandonedState_of_no_tail (by rw [hwork]; exact id)
    rw [exec_opening (by rw [← ht]; exact hrest) hwork hvt hactive.1 hw hpic hfits
      (openPicture_of_blocked hvt hm hfull hst) rfl k, takenUp, hrun, ← ht]
    rfl
  case gap =>
    subst hn
    intro row
    have hrow : row = recordRow r k := by cases r <;> rfl
    have hgap := exec_recordRow (s := s.gapAppended r.service v m) hrest k hpacker hqueue
    rw [isDraining_of_svc (gapAppended_svc s r.service v m)] at hgap
    rw [hrow, hgap, exec_recordRow hrest k hpacker hqueue, isDraining_of_svc hv,
      startRecord_of_room (s := taking s r rest _) hv hact hw hm hroom]
    rfl

end Sys2Proof.Proofs
end
